-- ==== Sys2Proof/Word.lean ====
section
/-! DEFINITION. The word types of the tile core (R10, R33, R61, R95). -/

namespace Sys2Proof

/-- A byte: a channel intensity, a plane byte, a received byte (R33, R62, R91). -/
abbrev Byte := BitVec 8

/-- An event word, the spec's own encoding of one step (R95): `op = w[15:8]`, `arg = w[7:0]`. -/
abbrev EventWord := BitVec 16

/-- An address of the plane-buffer space BUF (R61): 9 bits, every value valid. -/
abbrev BufAddr := BitVec 9

end Sys2Proof
end

