-- ==== Sys2Proof/Syntax.lean ====
section
/-! DEFINITION. The steps of the tile core as syntax: one constructor per row of the opcode table (R96), the row's
mnemonic, and the agent that takes it (R18). -/

namespace Sys2Proof

/-- The agents that take steps (R18). The fifth agent of R18, the driver chips, only observes the output lines and
takes no step of its own. -/
inductive Agent where
  /-- The block's environment: startup glue and upstream sender (R220). -/
  | host
  /-- The step timer (R230). -/
  | stepTimer
  /-- The service unit, which runs one service routine at a time (R255). -/
  | serviceUnit
  /-- The consumer, the main loop's poll (R189). -/
  | consumer
deriving DecidableEq, Repr

/-- One atomic step of the tile core with its operand: the rows of R96. -/
inductive Instr where
  /-- `RX_INIT` (R221). -/
  | rxInit
  /-- `RX_START` (R222). -/
  | rxStart
  /-- `BAM_INIT` (R121). -/
  | bamInit
  /-- `GIE_SET` (R223). -/
  | gieSet
  /-- `BAM_START` (R124). -/
  | bamStart
  /-- `LOOP_START` (R224). -/
  | loopStart
  /-- `BAM_RESET` (R126). -/
  | bamReset
  /-- `SER_BYTE v` (R225): one completed serial transfer of the byte `v`. -/
  | serByte (v : Byte)
  /-- `LATCH_SET l` (R226): the upstream sender sets the latch line to the level `l`. -/
  | latchSet (level : Bool)
  /-- `TICK` (R230). -/
  | tick
  /-- `SVC_TIMER` (R127). -/
  | svcTimer
  /-- `SVC_LATCH` (R181). -/
  | svcLatch
  /-- `SVC_SERIAL` (R184). -/
  | svcSerial
  /-- `C_TEST` (R190). -/
  | cTest
  /-- `C_ASM` (R191). -/
  | cAsm
  /-- `C_INC` (R192). -/
  | cInc
  /-- `C_CLR` (R193). -/
  | cClr
deriving DecidableEq, Repr

/-- The mnemonic column of R96: a step kind without its operand. -/
inductive Mnemonic where
  /-- `RX_INIT`. -/
  | rxInit
  /-- `RX_START`. -/
  | rxStart
  /-- `BAM_INIT`. -/
  | bamInit
  /-- `GIE_SET`. -/
  | gieSet
  /-- `BAM_START`. -/
  | bamStart
  /-- `LOOP_START`. -/
  | loopStart
  /-- `BAM_RESET`. -/
  | bamReset
  /-- `SER_BYTE`. -/
  | serByte
  /-- `LATCH_SET`. -/
  | latchSet
  /-- `TICK`. -/
  | tick
  /-- `SVC_TIMER`. -/
  | svcTimer
  /-- `SVC_LATCH`. -/
  | svcLatch
  /-- `SVC_SERIAL`. -/
  | svcSerial
  /-- `C_TEST`. -/
  | cTest
  /-- `C_ASM`. -/
  | cAsm
  /-- `C_INC`. -/
  | cInc
  /-- `C_CLR`. -/
  | cClr
deriving DecidableEq, Repr

/-- The row of R96 a step belongs to. -/
def Instr.mnemonic : Instr → Mnemonic
  | .rxInit => .rxInit
  | .rxStart => .rxStart
  | .bamInit => .bamInit
  | .gieSet => .gieSet
  | .bamStart => .bamStart
  | .loopStart => .loopStart
  | .bamReset => .bamReset
  | .serByte _ => .serByte
  | .latchSet _ => .latchSet
  | .tick => .tick
  | .svcTimer => .svcTimer
  | .svcLatch => .svcLatch
  | .svcSerial => .svcSerial
  | .cTest => .cTest
  | .cAsm => .cAsm
  | .cInc => .cInc
  | .cClr => .cClr

/-- The agent column of R96. -/
def Mnemonic.agent : Mnemonic → Agent
  | .rxInit | .rxStart | .bamInit | .gieSet | .bamStart | .loopStart | .bamReset => .host
  | .serByte | .latchSet => .host
  | .tick => .stepTimer
  | .svcTimer | .svcLatch | .svcSerial => .serviceUnit
  | .cTest | .cAsm | .cInc | .cClr => .consumer

/-- The agent that takes a step (R18, R96). -/
def Instr.agent (i : Instr) : Agent := i.mnemonic.agent

/-- The mnemonic as R96 and a script (R101) spell it. -/
def Mnemonic.text : Mnemonic → List Char
  | .rxInit => "RX_INIT".toList
  | .rxStart => "RX_START".toList
  | .bamInit => "BAM_INIT".toList
  | .gieSet => "GIE_SET".toList
  | .bamStart => "BAM_START".toList
  | .loopStart => "LOOP_START".toList
  | .bamReset => "BAM_RESET".toList
  | .serByte => "SER_BYTE".toList
  | .latchSet => "LATCH_SET".toList
  | .tick => "TICK".toList
  | .svcTimer => "SVC_TIMER".toList
  | .svcLatch => "SVC_LATCH".toList
  | .svcSerial => "SVC_SERIAL".toList
  | .cTest => "C_TEST".toList
  | .cAsm => "C_ASM".toList
  | .cInc => "C_INC".toList
  | .cClr => "C_CLR".toList

/-- Every row of R96, in its order. -/
def Mnemonic.all : List Mnemonic :=
  [.rxInit, .rxStart, .bamInit, .gieSet, .bamStart, .loopStart, .bamReset, .serByte, .latchSet, .tick,
   .svcTimer, .svcLatch, .svcSerial, .cTest, .cAsm, .cInc, .cClr]

end Sys2Proof
end

