-- ==== Sys2Proof/WellFormed.lean ====
section
/-! DEFINITION. When a spelled step is well-formed (R101): `SER_BYTE` takes a number 0..255, `LATCH_SET` takes 0 or 1,
no other step takes an operand. A term of `Instr` carries its operand at the operand's width, so it is always
well-formed; the check bites on a step as a script spells it. -/

namespace Sys2Proof

/-- A step as a script spells it (R101): a mnemonic and, perhaps, a number. -/
structure Spelling where
  /-- The mnemonic. -/
  mnemonic : Mnemonic
  /-- The number that follows it, if one does. -/
  operand : Option Nat
deriving DecidableEq, Repr

/-- Which operands R101 lets a mnemonic have. -/
def Spelling.wf : Spelling → Bool
  | ⟨.serByte, some v⟩ => decide (v < 256)
  | ⟨.serByte, none⟩ => false
  | ⟨.latchSet, some l⟩ => decide (l < 2)
  | ⟨.latchSet, none⟩ => false
  | ⟨_, none⟩ => true
  | ⟨_, some _⟩ => false

/-- The step of a row that has no operand (R96). -/
def Mnemonic.plain : Mnemonic → Option Instr
  | .rxInit => some .rxInit
  | .rxStart => some .rxStart
  | .bamInit => some .bamInit
  | .gieSet => some .gieSet
  | .bamStart => some .bamStart
  | .loopStart => some .loopStart
  | .bamReset => some .bamReset
  | .serByte => none
  | .latchSet => none
  | .tick => some .tick
  | .svcTimer => some .svcTimer
  | .svcLatch => some .svcLatch
  | .svcSerial => some .svcSerial
  | .cTest => some .cTest
  | .cAsm => some .cAsm
  | .cInc => some .cInc
  | .cClr => some .cClr

/-- The step a spelling stands for; an ill-formed spelling stands for none. -/
def Spelling.toInstr? (p : Spelling) : Option Instr :=
  if p.wf then
    match p.mnemonic, p.operand with
    | .serByte, some v => some (.serByte (BitVec.ofNat 8 v))
    | .latchSet, some l => some (.latchSet (l == 1))
    | m, _ => m.plain
  else none

/-- How a script spells a step (R101). -/
def Instr.spelling : Instr → Spelling
  | .serByte v => ⟨.serByte, some v.toNat⟩
  | .latchSet l => ⟨.latchSet, some l.toNat⟩
  | i => ⟨i.mnemonic, none⟩

/-- A step is well-formed if its spelling is. -/
def Instr.wf (i : Instr) : Bool := i.spelling.wf

end Sys2Proof
end

