-- ==== Sys2Proof/Decode.lean ====
section
/-! DEFINITION. The event-word decoder (R95 to R100), total on 16-bit words and rejecting by name, and after it the
encoder written from the same table. -/

namespace Sys2Proof

/-- Why a word is `INVALID` (R99). -/
inductive Invalid where
  /-- The word's `op` is in no row of R96: it is reserved. -/
  | reservedOp (w : EventWord)
  /-- The word's `arg` has a bit set where its row requires 0. -/
  | nonzeroArg (w : EventWord)
deriving DecidableEq, Repr

/-- What the decoder answers (R98). -/
inductive Decoded where
  /-- The word spells this step. -/
  | step (i : Instr)
  /-- The word spells no step. -/
  | invalid (why : Invalid)
deriving DecidableEq, Repr

/-- `op = w[15:8]` (R95). -/
def opOf (w : EventWord) : Byte := w.extractLsb' 8 8

/-- `arg = w[7:0]` (R95). -/
def argOf (w : EventWord) : Byte := w.extractLsb' 0 8

/-- The rows of R96 with no operand, by `op`. -/
def plainOp (op : Byte) : Option Instr :=
  match op.toNat with
  | 0x01 => some .rxInit
  | 0x02 => some .rxStart
  | 0x03 => some .bamInit
  | 0x04 => some .gieSet
  | 0x05 => some .bamStart
  | 0x06 => some .loopStart
  | 0x07 => some .bamReset
  | 0x20 => some .tick
  | 0x30 => some .svcTimer
  | 0x31 => some .svcLatch
  | 0x32 => some .svcSerial
  | 0x40 => some .cTest
  | 0x41 => some .cAsm
  | 0x42 => some .cInc
  | 0x43 => some .cClr
  | _ => none

/-- The decoder (R98), with the operands of R97. -/
def decode (w : EventWord) : Decoded :=
  let op := opOf w
  let arg := argOf w
  if op = 0x10 then .step (.serByte arg)
  else if op = 0x11 then
    if arg.extractLsb' 1 7 = 0 then .step (.latchSet (arg.getLsbD 0)) else .invalid (.nonzeroArg w)
  else
    match plainOp op with
    | some i => if arg = 0 then .step i else .invalid (.nonzeroArg w)
    | none => .invalid (.reservedOp w)

/-- The step of a decoder's answer, if there is one. -/
def Decoded.instr? : Decoded → Option Instr
  | .step i => some i
  | .invalid _ => none

/-- The one 16-bit word (R95, R100) that an instruction of `nbits` bits with bits `w` is stored as. -/
def tableWord (nbits w : Nat) : EventWord := BitVec.ofNat 16 (w % 2 ^ nbits)

/-- The step the decoder reads from an instruction of the opcode table with bits `w`. Every event word has 16 bits
(R100), so no row is longer. -/
def decodeTableWord (nbits w : Nat) : Option Instr :=
  if nbits ≤ 16 then (decode (tableWord nbits w)).instr? else none

/-- The `op` column of R96. -/
def Mnemonic.op : Mnemonic → Byte
  | .rxInit => 0x01
  | .rxStart => 0x02
  | .bamInit => 0x03
  | .gieSet => 0x04
  | .bamStart => 0x05
  | .loopStart => 0x06
  | .bamReset => 0x07
  | .serByte => 0x10
  | .latchSet => 0x11
  | .tick => 0x20
  | .svcTimer => 0x30
  | .svcLatch => 0x31
  | .svcSerial => 0x32
  | .cTest => 0x40
  | .cAsm => 0x41
  | .cInc => 0x42
  | .cClr => 0x43

/-- The `arg` column of R96, filled with the step's operand (R97). -/
def Instr.arg : Instr → Byte
  | .serByte v => v
  | .latchSet l => (BitVec.ofBool l).setWidth 8
  | .rxInit | .rxStart | .bamInit | .gieSet | .bamStart | .loopStart | .bamReset => 0
  | .tick | .svcTimer | .svcLatch | .svcSerial => 0
  | .cTest | .cAsm | .cInc | .cClr => 0

/-- The encoder (R95 to R97). -/
def encode (i : Instr) : EventWord := i.mnemonic.op ++ i.arg

/-- The mask of a row's fixed bits (R96, below its table). -/
def Mnemonic.mask : Mnemonic → EventWord
  | .serByte => 0xFF00
  | .latchSet => 0xFFFE
  | .rxInit | .rxStart | .bamInit | .gieSet | .bamStart | .loopStart | .bamReset => 0xFFFF
  | .tick | .svcTimer | .svcLatch | .svcSerial => 0xFFFF
  | .cTest | .cAsm | .cInc | .cClr => 0xFFFF

/-- The match value of a row (R96, below its table): `op << 8`. -/
def Mnemonic.matchBits (m : Mnemonic) : EventWord := m.op ++ (0 : Byte)

/-- A word falls under a row of R96 if its fixed bits are the row's. -/
def Mnemonic.covers (m : Mnemonic) (w : EventWord) : Bool := w &&& m.mask == m.matchBits

end Sys2Proof
end

