-- ==== Sys2Proof/Config.lean ====
section
/-! DEFINITION. The configuration of a tile core: the fixed geometry (R7), the parameters the source leaves open (R8),
when a configuration is well-formed (R9), the example configuration of decision D30, and the platform's own
configuration and what its driver chips hold at power-on, which nothing in Lean can evaluate. -/

namespace Sys2Proof

/-- `NCH` (R7): the pixel channels, 8 × 8 × 3. -/
def nch : Nat := 192
/-- `NSTEP` (R7): BAM steps, and planes per frame. -/
def nstep : Nat := 8
/-- `PLANE_BYTES` (R7). -/
def planeBytes : Nat := 32
/-- `BUF_BYTES` (R7): 8 planes of 32 bytes. -/
def bufBytes : Nat := 256
/-- `NBUF` (R7): the two buffers A and B. -/
def nbuf : Nat := 2
/-- `NCHAIN` (R7): parallel output chains. -/
def nchain : Nat := 6
/-- `CHAIN_LEN` (R7): bits shifted into each chain per step. -/
def chainLen : Nat := 32

/-- Which electrical level of a line means "asserted" (R8's last row, U16). -/
inductive Polarity where
  /-- The electrical level high stands for the logical level 1. -/
  | activeHigh
  /-- The electrical level low stands for the logical level 1. -/
  | activeLow
deriving DecidableEq, Repr

/-- The electrical level of a line that carries the logical level `v` (R94). -/
def Polarity.electrical : Polarity → Bool → Bool
  | .activeHigh, v => v
  | .activeLow, v => !v

/-- The parameters of R8, before any check. `SVC_ORDER`, the implementation overhead `OVH` and the latency `L` are
optional and are arguments of the functions that read them (`stepOrdered`, `Machine/Timing.lean`). -/
structure RawConfig where
  /-- `CHANMAP_POS[0..191]` (R8, R65): the byte position of each channel in a plane. -/
  chanmapPos : Vector Nat 192
  /-- `CHANMAP_MASK[0..191]` (R8, R65): the chain bit mask of each channel. -/
  chanmapMask : Vector Byte 192
  /-- `CHAIN_BITS` (R8), sorted ascending: chain `k` is on data line `chainBits[k]` (R150). -/
  chainBits : Vector Nat 6
  /-- `TMR_W` (R8): the width of the step timer's registers. -/
  tmrW : Nat
  /-- `P0` (R8): the base step period, in ticks. -/
  p0 : Nat
  /-- `STEP_PERIOD[0..7]` (R8, R66), in ticks. -/
  stepPeriod : Vector Nat 8
  /-- `T_LO` (R8), in seconds: the data-settle time, clock low. -/
  tLo : Rat
  /-- `T_HI` (R8), in seconds: the clock-high time. -/
  tHi : Rat
  /-- `T_LAT` (R8), in seconds: the settling time around the output latch pulse. -/
  tLat : Rat
  /-- `T_CLR` (R8), in seconds: the settling time around the chip-clear sequence. -/
  tClr : Rat
  /-- `TICK_HZ` (R8): the tick rate of the step timer. -/
  tickHz : Rat
  /-- The polarity of the lines `DATA` (R8, U16). -/
  polData : Polarity
  /-- The polarity of the line `CLK` (R8, U16). -/
  polClk : Polarity
  /-- The polarity of the line `LAT` (R8, U16). -/
  polLat : Polarity
  /-- The polarity of the line `BLANK` (R8, U16). -/
  polBlank : Polarity
  /-- The polarity of the input `latch_in` (U16). -/
  polLatchIn : Polarity
deriving DecidableEq, Repr

/-- `CHAIN_BITS` is a 6-element subset of {0..7}, listed ascending (R8). -/
abbrev RawConfig.ChainBitsOk (r : RawConfig) : Prop :=
  (∀ k : Fin 6, r.chainBits[k] < 8) ∧ ∀ j k : Fin 6, j < k → r.chainBits[j] < r.chainBits[k]

/-- R9 item 1. -/
abbrev RawConfig.PosOk (r : RawConfig) : Prop := ∀ c : Fin 192, r.chanmapPos[c] < 32

/-- R9 item 2. -/
abbrev RawConfig.MaskOk (r : RawConfig) : Prop :=
  ∀ c : Fin 192, ∃ k : Fin 6, r.chanmapMask[c] = (1 : Byte) <<< r.chainBits[k]

/-- R9 item 3: the channel map is injective. -/
abbrev RawConfig.MapInjective (r : RawConfig) : Prop :=
  ∀ c d : Fin 192, r.chanmapPos[c] = r.chanmapPos[d] → r.chanmapMask[c] = r.chanmapMask[d] → c = d

/-- R9 item 4. -/
abbrev RawConfig.PeriodOk (r : RawConfig) : Prop :=
  (∀ p : Fin 8, r.stepPeriod[p] = r.p0 * 2 ^ p.val) ∧ 1 ≤ r.p0 ∧ r.stepPeriod[7] < 2 ^ r.tmrW

/-- When a configuration is well-formed (R9, with R8's constraint on `CHAIN_BITS`). -/
abbrev RawConfig.WellFormed (r : RawConfig) : Prop :=
  r.ChainBitsOk ∧ r.PosOk ∧ r.MaskOk ∧ r.MapInjective ∧ r.PeriodOk

/-- The relations the source fixes among the timing parameters (R318), with every delay non-negative and the tick
rate positive. No functional rule depends on them. -/
abbrev RawConfig.TimingOk (r : RawConfig) : Prop :=
  0 ≤ r.tLo ∧ 0 ≤ r.tHi ∧ 0 < r.tickHz ∧ r.tLo < r.tClr ∧ r.tHi < r.tClr ∧ r.tLo < r.tLat ∧ r.tHi < r.tLat

/-- A well-formed configuration. An ill-formed one cannot be written down, so a model of it does not start (R9, U4). -/
structure Config where
  /-- The parameters. -/
  raw : RawConfig
  /-- They meet R9. -/
  wf : raw.WellFormed
deriving DecidableEq, Repr

/-- Takes a set of parameters as a configuration, or refuses it (R9, U4). -/
def Config.ofRaw? (r : RawConfig) : Option Config :=
  if h : r.WellFormed then some ⟨r, h⟩ else none

/-- The example configuration of decision D30: for examples and test vectors only, not the product's wiring. Its
timer width, delays and polarities, which D30 does not name, are the model's own. -/
def RawConfig.d30 : RawConfig where
  chanmapPos := Vector.ofFn fun c => c.val / 6
  chanmapMask := Vector.ofFn fun c => (1 : Byte) <<< (c.val % 6)
  chainBits := Vector.ofFn fun k => k.val
  tmrW := 8
  p0 := 1
  stepPeriod := Vector.ofFn fun p => 2 ^ p.val
  tLo := 1
  tHi := 1
  tLat := 2
  tClr := 2
  tickHz := 1
  polData := .activeHigh
  polClk := .activeHigh
  polLat := .activeHigh
  polBlank := .activeHigh
  polLatchIn := .activeHigh

theorem RawConfig.d30_chainBitsOk : RawConfig.d30.ChainBitsOk := by decide +kernel
theorem RawConfig.d30_posOk : RawConfig.d30.PosOk := by decide +kernel
theorem RawConfig.d30_maskOk : RawConfig.d30.MaskOk := by decide +kernel
theorem RawConfig.d30_mapInjective : RawConfig.d30.MapInjective := by
  intro c d hp hm
  have lane : ∀ j < 6, ∀ k < 6, (1 : Byte) <<< j = (1 : Byte) <<< k → j = k := by decide
  have hp' : c.val / 6 = d.val / 6 := by simpa [RawConfig.d30] using hp
  have hm' : (1 : Byte) <<< (c.val % 6) = (1 : Byte) <<< (d.val % 6) := by simpa [RawConfig.d30] using hm
  have := lane _ (Nat.mod_lt _ (by decide)) _ (Nat.mod_lt _ (by decide)) hm'
  exact Fin.ext (by omega)
theorem RawConfig.d30_periodOk : RawConfig.d30.PeriodOk := by decide +kernel

/-- D30's example configuration, with its check. -/
def Config.d30 : Config where
  raw := RawConfig.d30
  wf := ⟨RawConfig.d30_chainBitsOk, RawConfig.d30_posOk, RawConfig.d30_maskOk, RawConfig.d30_mapInjective,
    RawConfig.d30_periodOk⟩

/-- Some well-formed configuration, which one is left open. It has no body: nothing in Lean can evaluate it. -/
opaque Config.openChoice [Inhabited Config] : Config

/-- The configuration of the tile core at hand: every parameter the source leaves open (R8: OPEN), as a free value.
The example configuration only shows that a well-formed one exists. -/
def Config.platform : Config := @Config.openChoice ⟨Config.d30⟩

/-- The driver chips as the observer of R150 sees them: `sr[k][i]` and `out[k][i]` are bit `i` of the `k`-th entry,
for chain `k` in 0..5 and stage `i` in 0..31; stage 0 is next to the data input. -/
structure Chips where
  /-- The shift registers. -/
  sr : Vector (BitVec 32) 6
  /-- The output latches. -/
  out : Vector (BitVec 32) 6
deriving DecidableEq, Repr, Inhabited

/-- What the driver chips hold at power-on: "arbitrary values (a draw)" (R150, R292, U7). A free value with no body:
nothing in Lean can evaluate it. -/
opaque Config.chipsAtPowerOn : Chips

end Sys2Proof
end

