-- ==== Sys2Proof/Machine/State.lean ====
section
/-! DEFINITION. The state of the tile core as plain data (R20 to R54), the reasons a step is not taken, and the state
after power-on reset (R53, R290). -/

namespace Sys2Proof.Machine

/-- The two plane buffers (R24, R61). -/
inductive Buffer where
  /-- Buffer A, BUF addresses 0..255; `front_sel = 0` names it. -/
  | a
  /-- Buffer B, BUF addresses 256..511; `front_sel = 1` names it. -/
  | b
deriving DecidableEq, Repr

/-- `cmd_state` (R39). -/
inductive CmdState where
  /-- 0, "awaiting first post-latch serial event". -/
  | awaitFirst
  /-- 1, "awaiting second post-latch serial event". -/
  | awaitSecond
deriving DecidableEq, Repr

/-- `c_phase` (R42): which consumer step comes next. -/
inductive Phase where
  /-- 0: `C_TEST` comes next. -/
  | test
  /-- 1: `C_ASM` comes next. -/
  | asm
  /-- 2: `C_INC` comes next. -/
  | inc
  /-- 3: `C_CLR` comes next. -/
  | clr
deriving DecidableEq, Repr

/-- The four delays a `Wait` names (R8, R13). Their lengths are configuration. -/
inductive Delay where
  /-- `T_LO`. -/
  | tLo
  /-- `T_HI`. -/
  | tHi
  /-- `T_LAT`. -/
  | tLat
  /-- `T_CLR`. -/
  | tClr
deriving DecidableEq, Repr

/-- A record of `bus_trace` (R13, R46): a line driven to a level, or a wait. -/
inductive Record where
  /-- `(DATA, v)`. -/
  | data (v : Byte)
  /-- `(CLK, v)`. -/
  | clk (v : Bool)
  /-- `(LAT, v)`. -/
  | lat (v : Bool)
  /-- `(BLANK, v)`. -/
  | blank (v : Bool)
  /-- `(WAIT, t)`. -/
  | wait (t : Delay)
deriving DecidableEq, Repr

/-- The output lines, at their logical levels (R44, R94). -/
structure Lines where
  /-- `DATA`, 8 bits: bit `j` drives data line `j`. -/
  data : Byte
  /-- `CLK`: true is high. -/
  clk : Bool
  /-- `LAT`: true is asserted (transfer). -/
  lat : Bool
  /-- `BLANK`: true is blanked. -/
  blank : Bool
deriving DecidableEq, Repr

/-- The lines at power-on (R44, R53). -/
def Lines.powerOn : Lines := ⟨0x00, false, false, true⟩

/-- The plane-buffer space BUF as a list of (address, byte) pairs (R61): addresses strictly rising, no listed byte
equal to the byte an unlisted address reads as (see `Memory.wf`, `Memory.unlisted`). -/
abbrev Memory := List Host.Cell

/-- The state of the tile core (R20). Flags and 1-bit registers are `Bool`, true for 1. `cfg`, `script` and `chips` are
the model's own fields, not registers of the block. -/
structure State where
  /-- The model's own: the configuration (R8, R20). No step writes it. -/
  cfg : Config
  /-- The model's own: the event words of the steps still to be taken, the rest of the run's schedule (R81, R101). -/
  script : List EventWord
  /-- `bam_step`, 3 bits (R23). -/
  bamStep : BitVec 3
  /-- `front_sel`, 1 bit (R24). -/
  frontSel : Buffer
  /-- `tmr_run`, 1 bit (R25). -/
  tmrRun : Bool
  /-- `tmr_cnt`, `TMR_W` bits (R26), as a number below 2 to the `TMR_W`. -/
  tmrCnt : Nat
  /-- `tmr_reload`, `TMR_W` bits (R27), as a number below 2 to the `TMR_W`. -/
  tmrReload : Nat
  /-- `tmr_pend`, 1 bit (R28). -/
  tmrPend : Bool
  /-- `gie`, 1 bit (R29). -/
  gie : Bool
  /-- `latch_in`, 1 bit (R30). -/
  latchIn : Bool
  /-- `lat_pend`, 1 bit (R31). -/
  latPend : Bool
  /-- `lat_ie`, 1 bit (R32). -/
  latIe : Bool
  /-- `ser_data`, 8 bits (R33). -/
  serData : Byte
  /-- `ser_flag`, 1 bit (R34). -/
  serFlag : Bool
  /-- `ser_ie`, 1 bit (R35); it is also the data-path state of R40. -/
  serIe : Bool
  /-- `rx_byte`, 8 bits (R36). -/
  rxByte : Byte
  /-- `rx_count`, 8 bits (R37). -/
  rxCount : Byte
  /-- `rx_valid`, 1 bit (R38). -/
  rxValid : Bool
  /-- `cmd_state`, 1 bit (R39). -/
  cmdState : CmdState
  /-- `c_en`, 1 bit (R41). -/
  cEn : Bool
  /-- `c_phase`, 2 bits (R42). -/
  cPhase : Phase
  /-- `c_val`, 8 bits (R43). -/
  cVal : Byte
  /-- `c_ch`, 8 bits (R43). -/
  cCh : Byte
  /-- `DATA`, `CLK`, `LAT`, `BLANK` (R44). -/
  lines : Lines
  /-- `bus_trace`, oldest record first (R46). -/
  busTrace : List Record
  /-- `refused`, 1 bit (R47). -/
  refused : Bool
  /-- `boot_rx`, 1 bit of bookkeeping (R54). -/
  bootRx : Bool
  /-- `boot_bam`, 1 bit of bookkeeping (R54). -/
  bootBam : Bool
  /-- BUF, 512 bytes (R45, R61). -/
  mem : Memory
  /-- The model's own: the driver chips outside the block, as the observer of R150 sees them. -/
  chips : Chips
deriving DecidableEq, Repr

/-- The state right after power-on reset (R53, R290, R291): every register, line and bookkeeping bit at its power-on
value, BUF all zero, the trace empty. The configuration and the driver chips are free values; no script is loaded. -/
def State.reset : State where
  cfg := Config.platform
  script := []
  bamStep := 0
  frontSel := .a
  tmrRun := false
  tmrCnt := 0
  tmrReload := 0
  tmrPend := false
  gie := false
  latchIn := false
  latPend := false
  latIe := false
  serData := 0
  serFlag := false
  serIe := false
  rxByte := 0
  rxCount := 0
  rxValid := false
  cmdState := .awaitFirst
  cEn := false
  cPhase := .test
  cVal := 0
  cCh := 0
  lines := Lines.powerOn
  busTrace := []
  refused := false
  bootRx := false
  bootBam := false
  mem := []
  chips := Config.chipsAtPowerOn

/-- The three service routines of the service unit (R252). -/
inductive Service where
  /-- `SVC_TIMER` (R127). -/
  | timer
  /-- `SVC_LATCH` (R181). -/
  | latch
  /-- `SVC_SERIAL` (R184). -/
  | serial
deriving DecidableEq, Repr

/-- The reasons of `refuse(reason)` (R14, R227). A refused host operation is NOT an outcome of this model's `Refusal`:
it takes a next state in which only `refused` is set (R47, R227). -/
inductive RefuseReason where
  /-- `INIT_WHILE_SERVICES_ENABLED`: `RX_INIT` or `BAM_INIT` with `gie = 1`. -/
  | initWhileServicesEnabled
  /-- `START_BEFORE_INIT`: `RX_START` with `boot_rx = 0`, `BAM_START` with `boot_bam = 0`. -/
  | startBeforeInit
  /-- `RESET_BEFORE_INIT`: `BAM_RESET` with `boot_bam = 0`. -/
  | resetBeforeInit
  /-- `ENABLE_BEFORE_INIT`: `GIE_SET` with `boot_rx = 0` or `boot_bam = 0`. -/
  | enableBeforeInit
  /-- `LOOP_BEFORE_INIT`: `LOOP_START` with `boot_rx = 0` or `boot_bam = 0`. -/
  | loopBeforeInit
deriving DecidableEq, Repr

/-- Faults: the block has none. "No step faults" (R250): no address is invalid, no decoded word faults, no arithmetic
traps. -/
inductive Fault
deriving DecidableEq, Repr

/-- Why the model takes no step. Except for `notModelled`, each is the outcome *not enabled* of R14 or the rejection of
a script (R99, R103, U5, U6): the spec gives such a step no effect, so stopping is safe. -/
inductive Refusal where
  /-- Raised by `exec` for an instruction without a meaning. Safe. No arm raises it. -/
  | notModelled (mnemonic : String)
  /-- Raised by `step` when no event word is left: the schedule is over, the run is a finite prefix (R19). Safe. -/
  | scriptEnd
  /-- Raised by `step` when the script holds an `INVALID` word: the script is rejected and never run (R99, U5). Safe. -/
  | invalidWord (w : EventWord)
  /-- Raised by `TICK` with `tmr_run = 0`: the step is not enabled (R230, R103). Safe. -/
  | timerStopped
  /-- Raised by a service step the dispatcher does not admit (R255, R103). Safe. -/
  | serviceNotEnabled (svc : Service)
  /-- Raised by a consumer step with `c_en = 0` or with `c_phase` naming another step (R189, R103). Safe. -/
  | consumerNotEnabled (phase : Phase)
deriving DecidableEq, Repr

end Sys2Proof.Machine
end

