-- ==== Sys2Proof/Machine/Operands.lean ====
section
/-! DEFINITION. What the steps read besides registers: the ROM tables (R60, R65 to R68), BUF addresses (R61), the channel
index (R91), and the numbers behind the named values (R24, R39, R42). -/

namespace Sys2Proof

/-- `STEP_PERIOD[s]`, in ticks (R66). -/
def Config.period (c : Config) (s : BitVec 3) : Nat :=
  c.raw.stepPeriod[s.toNat]'(by have := s.isLt; omega)

/-- `CHANMAP_POS[c]` (R65, R161). -/
def Config.pos (c : Config) (ch : Fin 192) : Nat := c.raw.chanmapPos[ch]

/-- `CHANMAP_MASK[c]` (R65, R161). -/
def Config.mask (c : Config) (ch : Fin 192) : Byte := c.raw.chanmapMask[ch]

/-- `CHAIN_BITS_k`: the data line of chain `k` (R150). -/
def Config.chainBit (c : Config) (k : Fin 6) : Nat := c.raw.chainBits[k]

/-- The data lines that carry a chain, as a byte: `CHAIN_BITS` as a mask (R8, R62). -/
def Config.chainMask (c : Config) : Byte :=
  (List.finRange 6).foldl (fun m k => m ||| (1 : Byte) <<< c.chainBit k) 0

/-- `STEP_OFFSET[s]` (R67). -/
def stepOffset (s : BitVec 3) : Nat := 32 * s.toNat

/-- The colour components of a pixel, in the order R91 reads "RGB". -/
inductive Colour where
  /-- `k = 0`. -/
  | red
  /-- `k = 1`. -/
  | green
  /-- `k = 2`. -/
  | blue
deriving DecidableEq, Repr

/-- The number `k` of a colour component (R91). -/
def Colour.index : Colour → Nat
  | .red => 0
  | .green => 1
  | .blue => 2

/-- The channel index of a colour component of the pixel in row `r`, column `col` (R91). -/
def channelIndex (r col : Fin 8) (k : Colour) : Nat := 3 * (8 * r.val + col.val) + k.index

end Sys2Proof

namespace Sys2Proof.Machine

/-- The number of a buffer: the value of `front_sel` that names it (R24). -/
def Buffer.sel : Buffer → Nat
  | .a => 0
  | .b => 1

/-- The other buffer: `1 - front_sel` (R24). -/
def Buffer.other : Buffer → Buffer
  | .a => .b
  | .b => .a

/-- The bits of `cmd_state` (R39). -/
def CmdState.code : CmdState → BitVec 1
  | .awaitFirst => 0
  | .awaitSecond => 1

/-- The bits of `c_phase` (R42). -/
def Phase.code : Phase → BitVec 2
  | .test => 0
  | .asm => 1
  | .inc => 2
  | .clr => 3

/-- The step a service is taken by (R252). -/
def Service.instr : Service → Instr
  | .timer => .svcTimer
  | .latch => .svcLatch
  | .serial => .svcSerial

/-- A BUF address: `256 * buf` plus an offset within the buffer (R61). -/
def bufAddr (f : Buffer) (off : Nat) : BufAddr := BitVec.ofNat 9 (256 * f.sel + off)

/-- The buffer of a BUF address, `a[8]` (R61). -/
def addrBuffer (a : BufAddr) : Buffer := if a.getLsbD 8 then .b else .a

/-- The plane of a BUF address, `a[7:5]` (R61). -/
def addrPlane (a : BufAddr) : BitVec 3 := a.extractLsb' 5 3

/-- The byte position of a BUF address within its plane, `a[4:0]` (R61). -/
def addrPos (a : BufAddr) : BitVec 5 := a.extractLsb' 0 5

end Sys2Proof.Machine
end

