-- ==== Sys2Proof/Machine/Chips.lean ====
section
/-! DEFINITION. The output lines under a record, and the driver chips as the observer of R150 to R153 reads the records.
The observer is the spec's passage from general knowledge (G1 to G5). -/

namespace Sys2Proof

/-- A rising clock edge shifts every chain by one stage, its data line into stage 0 (R151). -/
def Chips.shift (c : Chips) (cfg : Config) (data : Byte) : Chips :=
  { c with sr := Vector.ofFn fun k => c.sr[k].shiftConcat (data.getLsbD (cfg.chainBit k)) }

/-- A rising latch edge copies the shift registers to the output latches (R152). -/
def Chips.transfer (c : Chips) : Chips := { c with out := c.sr }

end Sys2Proof

namespace Sys2Proof.Machine

/-- The lines after a record: a driven line holds its new level, a wait changes none (R13). -/
def Lines.after (l : Lines) : Record → Lines
  | .data v => { l with data := v }
  | .clk v => { l with clk := v }
  | .lat v => { l with lat := v }
  | .blank v => { l with blank := v }
  | .wait _ => l

/-- The driver chips after a record, `l` being the lines before it: they act on a rising `CLK` and on a rising `LAT`
and on nothing else (R150 to R152). -/
def chipsAfter (cfg : Config) (l : Lines) (c : Chips) : Record → Chips
  | .clk v => if v && !l.clk then c.shift cfg l.data else c
  | .lat v => if v && !l.lat then c.transfer else c
  | .data _ => c
  | .blank _ => c
  | .wait _ => c

/-- Lines and chips after one record. -/
def busAfter (cfg : Config) (b : Lines × Chips) (r : Record) : Lines × Chips :=
  (b.1.after r, chipsAfter cfg b.1 b.2 r)

/-- The observer reads a trace in order (R150). -/
def observe (cfg : Config) (b : Lines × Chips) (trace : List Record) : Lines × Chips :=
  trace.foldl (busAfter cfg) b

/-- The output of chain `k`, stage `i`, is on (R153). -/
def outputOn (l : Lines) (c : Chips) (k : Fin 6) (i : Nat) : Bool := c.out[k].getLsbD i && !l.blank

end Sys2Proof.Machine
end

