-- ==== Sys2Proof/Machine/Flags.lean ====
section
/-! DEFINITION. The status flags and service requests (R48, R252, R253): who raises one, who takes one, and when the
dispatcher admits a service (R255). The block has no arithmetic condition codes. -/

namespace Sys2Proof.Machine

/-- The pending bit of a service's source (R252). -/
def State.pending (s : State) : Service → Bool
  | .timer => s.tmrPend
  | .latch => s.latPend
  | .serial => s.serFlag

/-- The source's own enable (R252). The timer has none. -/
def State.sourceEnabled (s : State) : Service → Bool
  | .timer => true
  | .latch => s.latIe
  | .serial => s.serIe

/-- `enabled(SVC_…)`: the dispatcher admits the service (R255). -/
def State.serviceEnabled (s : State) (svc : Service) : Bool :=
  s.gie && s.sourceEnabled svc && s.pending svc

/-- Raises a source's request: the pending bit is set, whatever the enables hold (R253). -/
def State.raise (s : State) : Service → State
  | .timer => { s with tmrPend := true }
  | .latch => { s with latPend := true }
  | .serial => { s with serFlag := true }

/-- Clears a source's request (R252, R253). -/
def State.clearRequest (s : State) : Service → State
  | .timer => { s with tmrPend := false }
  | .latch => { s with latPend := false }
  | .serial => { s with serFlag := false }

/-- A consumer step is enabled iff `c_en = 1` and `c_phase` names it (R189). -/
def State.consumerEnabled (s : State) (p : Phase) : Bool := s.cEn && s.cPhase == p

/-- The data-path state "latch asserted, serial active" (R40): it is `ser_ie`. -/
def State.serialActive (s : State) : Bool := s.serIe

end Sys2Proof.Machine
end

