-- ==== Sys2Proof/Machine/Ops.lean ====
section
/-! DEFINITION. The named operations the meanings share: BUF (R12, R61), the output lines (R13), refusal (R14, R47), the
timer registers (R26, R27), service entry and return (R257, R258), and every internal operation of R104. -/

namespace Sys2Proof.Machine

/-! ## BUF -/

/-- What an unlisted BUF byte reads as: BUF is all zero at power-on (R291). -/
def Memory.unlisted : Byte := 0x00

/-- The byte at a key of the list. -/
def Memory.readAt : Memory → Nat → Byte
  | [], _ => Memory.unlisted
  | (b, v) :: m, a => if b = a then v else readAt m a

/-- Puts a byte at a key of the list; writing the byte an unlisted address reads as removes the entry. -/
def Memory.writeAt : Memory → Nat → Byte → Memory
  | [], a, v => if v = Memory.unlisted then [] else [(a, v)]
  | (b, w) :: m, a, v =>
    if a < b then (if v = Memory.unlisted then (b, w) :: m else (a, v) :: (b, w) :: m)
    else if a = b then (if v = Memory.unlisted then m else (a, v) :: m)
    else (b, w) :: writeAt m a v

/-- `MemRead(a, 1)` (R12). It has no side effect (R73). -/
def Memory.read (m : Memory) (a : BufAddr) : Byte := m.readAt a.toNat

/-- `MemWrite(a, 1, v)` (R12). -/
def Memory.write (m : Memory) (a : BufAddr) (v : Byte) : Memory := m.writeAt a.toNat v

/-- The canonical form of BUF: addresses strictly rising, every one a 9-bit address (R61), no byte listed that an
unlisted address would read as. -/
abbrev Memory.wf (m : Memory) : Prop :=
  (m.map Prod.fst).Pairwise (· < ·) ∧ ∀ e ∈ m, e.1 < 512 ∧ e.2 ≠ Memory.unlisted

/-- Writes 0x00 to every address of BUF, 0 first: the loop of `BAM_INIT` (R121). -/
def Memory.zeroed (m : Memory) : Memory :=
  (List.range 512).foldl (fun m a => m.write (BitVec.ofNat 9 a) 0x00) m

/-! ## Output lines and refusal -/

/-- The `Drive` and `Wait` statements of an operation, in order (R13): the lines take the driven levels, the records are
appended to `bus_trace`, and the driver chips see them. -/
def State.emit (s : State) (rs : List Record) : State :=
  let b := observe s.cfg (s.lines, s.chips) rs
  { s with lines := b.1, chips := b.2, busTrace := s.busTrace ++ rs }

/-- `refuse(reason)` (R14): no state changes but the mark (R47, R227). The reason is not state; `refusalReason` gives
it for every step and state. -/
def State.refuse (s : State) (_reason : RefuseReason) : State := { s with refused := true }

/-! ## Timer registers -/

/-- A value as the step timer's `TMR_W`-bit registers hold it (R11, R26, R27). -/
def timerValue (cfg : Config) (v : Nat) : Nat := v % 2 ^ cfg.raw.tmrW

/-- `tmr_reload <- v; tmr_cnt <- v`. -/
def State.loadTimer (s : State) (v : Nat) : State :=
  { s with tmrReload := timerValue s.cfg v, tmrCnt := timerValue s.cfg v }

/-! ## Service entry and return. The block raises no exception (R250); this is its whole trap mechanism. -/

/-- Taking a service (R257): it saves no state and changes no mode, mask or stack; it clears the routine's own request
as its first statement. -/
def State.enterService (s : State) (svc : Service) : State := s.clearRequest svc

/-- Return from a service (R258): there is nothing to restore, and the enables are what the routine left. -/
def State.leaveService (s : State) : State := s

/-! ## Internal operations of the BAM engine -/

/-- One clocked byte (R131, R136): all 8 data lines at once, then one `CLK` pulse. -/
def clockByte (b : Byte) : List Record := [.data b, .wait .tLo, .clk true, .wait .tHi, .clk false]

/-- The records of `ChipClear` (R122). -/
def chipClearRecords : List Record :=
  [.wait .tClr] ++ (List.range chainLen).flatMap (fun _ => clockByte 0x00) ++
    [.wait .tClr, .lat true, .wait .tLat, .lat false, .wait .tClr]

/-- `ChipClear` (R122). -/
def State.chipClear (s : State) : State := s.emit chipClearRecords

/-- `BamStart` (R123). -/
def State.startBam (s : State) : State := { s with tmrRun := true }

/-- `BamReset` (R125). `tmr_pend` stays as it was. -/
def State.resetBam (s : State) : State :=
  { s with tmrRun := false, bamStep := 0 }.loadTimer (s.cfg.period 0)

/-- `LatchAssert` (R130). -/
def State.latchAssert (s : State) : State := s.emit [.lat true, .wait .tLat]

/-- The 32 bytes of a plane as `Transmit` sends them, position 0 first (R131 to R133). -/
def planeBytesOf (m : Memory) (f : Buffer) (n : BitVec 3) : List Byte :=
  (List.range planeBytes).map fun i => m.read (bufAddr f (stepOffset n + i))

/-- The records of `Transmit(n)` from the buffer `f` (R131). -/
def transmitRecords (m : Memory) (f : Buffer) (n : BitVec 3) : List Record :=
  [.lat false, .wait .tLat] ++ (planeBytesOf m f n).flatMap clockByte

/-- `Transmit(n)` (R131): it reads the front buffer. -/
def State.transmit (s : State) (n : BitVec 3) : State := s.emit (transmitRecords s.mem s.frontSel n)

/-- `Swap` (R135): the roles change, no byte moves. -/
def State.swap (s : State) : State := { s with frontSel := s.frontSel.other }

/-! ## Internal operations of the frame assembler and the reception -/

/-- The address `Assemble` writes for plane `p` of a buffer and byte position `pos` (R163, R165). -/
def assembleAddr (back : Buffer) (p pos : Nat) : BufAddr := bufAddr back (32 * p + pos)

/-- One plane of `Assemble` (R163): the lane `m` of one byte takes bit `p` of `v`. -/
def assemblePlane (back : Buffer) (pos : Nat) (m v : Byte) (buf : Memory) (p : Nat) : Memory :=
  let a := assembleAddr back p pos
  let old := buf.read a
  buf.write a (if v.getLsbD p then old ||| m else old &&& ~~~m)

/-- The memory after `Assemble(v, c)` into the buffer `back`, for `c < 192` (R163). -/
def assembleMem (cfg : Config) (back : Buffer) (v : Byte) (c : Fin 192) (buf : Memory) : Memory :=
  (List.range nstep).foldl (assemblePlane back (cfg.pos c) (cfg.mask c) v) buf

/-- `Assemble(v, c)` (R163), with the guard of R164. -/
def State.assemble (s : State) (v c : Byte) : State :=
  if h : c.toNat < 192 then { s with mem := assembleMem s.cfg s.frontSel.other v ⟨c.toNat, h⟩ s.mem } else s

/-- `RxClear` (R185). -/
def State.rxClear (s : State) : State := { s with rxByte := 0, rxCount := 0, rxValid := false }

end Sys2Proof.Machine
end

