-- ==== Sys2Proof/Machine/Bam.lean ====
section
/-! DEFINITION. The steps of the BAM engine: `BAM_INIT` (R121), `BAM_START` (R124), `BAM_RESET` (R126) and `SVC_TIMER`
(R127). -/

namespace Sys2Proof.Machine

/-- `BAM_INIT` where it is not refused (R121), statement by statement. -/
def State.bamInit (s : State) : State :=
  let s := s.emit [.blank true, .lat false, .clk false, .data 0x00]
  let s := { s with mem := s.mem.zeroed }
  let s := { s with frontSel := .a, bamStep := 0, tmrRun := false, tmrPend := false }
  let s := s.loadTimer (s.cfg.period 0)
  let s := s.chipClear
  let s := s.emit [.blank false]
  { s with bootBam := true }

/-- `BAM_INIT` (R121). -/
def execBamInit (s : State) : Host.Outcome State Fault Refusal :=
  if s.gie then .next (s.refuse .initWhileServicesEnabled) else .next s.bamInit

/-- `BAM_START` (R124). -/
def execBamStart (s : State) : Host.Outcome State Fault Refusal :=
  if !s.bootBam then .next (s.refuse .startBeforeInit) else .next s.startBam

/-- `BAM_RESET` (R126). -/
def execBamReset (s : State) : Host.Outcome State Fault Refusal :=
  if !s.bootBam then .next (s.refuse .resetBeforeInit) else .next s.resetBam

/-- The body of the timer service (R127), statement by statement. -/
def State.timerService (s : State) : State :=
  let s := s.enterService .timer
  let s := { s with tmrRun := false }
  let step := s.bamStep
  let s := s.loadTimer (s.cfg.period step)
  let s := { s with bamStep := step + 1 }
  let s := s.latchAssert
  let s := { s with tmrRun := true }
  (s.transmit s.bamStep).leaveService

/-- `SVC_TIMER` (R127), enabled by R255. -/
def execSvcTimer (s : State) : Host.Outcome State Fault Refusal :=
  if s.serviceEnabled .timer then .next s.timerService else .refused (.serviceNotEnabled .timer)

end Sys2Proof.Machine
end

