-- ==== Sys2Proof/Machine/Consumer.lean ====
section
/-! DEFINITION. The consumer's four steps (R189 to R193). -/

namespace Sys2Proof.Machine

/-- The body of `C_TEST` (R190). -/
def State.testPhase (s : State) : State :=
  if !s.rxValid then s
  else if s.rxCount.toNat < nch then { s with cVal := s.rxByte, cCh := s.rxCount, cPhase := .asm }
  else { s.swap with rxCount := 0 }

/-- `C_TEST` (R190). -/
def execCTest (s : State) : Host.Outcome State Fault Refusal :=
  if s.consumerEnabled .test then .next s.testPhase else .refused (.consumerNotEnabled .test)

/-- The body of `C_ASM` (R191): the snapshot, not the current registers. -/
def State.asmPhase (s : State) : State := { s.assemble s.cVal s.cCh with cPhase := .inc }

/-- `C_ASM` (R191). -/
def execCAsm (s : State) : Host.Outcome State Fault Refusal :=
  if s.consumerEnabled .asm then .next s.asmPhase else .refused (.consumerNotEnabled .asm)

/-- `C_INC` (R192): the current value, not the snapshot. -/
def execCInc (s : State) : Host.Outcome State Fault Refusal :=
  if s.consumerEnabled .inc then .next { s with rxCount := s.rxCount + 1, cPhase := .clr }
  else .refused (.consumerNotEnabled .inc)

/-- `C_CLR` (R193). -/
def execCClr (s : State) : Host.Outcome State Fault Refusal :=
  if s.consumerEnabled .clr then .next { s with rxValid := false, cPhase := .test }
  else .refused (.consumerNotEnabled .clr)

end Sys2Proof.Machine
end

