-- ==== Sys2Proof/Machine/HostOps.lean ====
section
/-! DEFINITION. The host agent's steps outside the BAM engine: the reception's and the global entry points (R221 to R224)
and the two stimuli of the upstream sender (R225, R226). -/

namespace Sys2Proof.Machine

/-- `RX_INIT` where it is not refused (R221). -/
def State.rxInit (s : State) : State :=
  { s.rxClear with cmdState := .awaitFirst, serIe := false, latPend := false, latIe := true, bootRx := true }

/-- `RX_INIT` (R221). -/
def execRxInit (s : State) : Host.Outcome State Fault Refusal :=
  if s.gie then .next (s.refuse .initWhileServicesEnabled) else .next s.rxInit

/-- `RX_START` (R222). -/
def execRxStart (s : State) : Host.Outcome State Fault Refusal :=
  if !s.bootRx then .next (s.refuse .startBeforeInit) else .next { s with latIe := true }

/-- `GIE_SET` (R223). -/
def execGieSet (s : State) : Host.Outcome State Fault Refusal :=
  if !s.bootRx || !s.bootBam then .next (s.refuse .enableBeforeInit) else .next { s with gie := true }

/-- `LOOP_START` (R224). -/
def execLoopStart (s : State) : Host.Outcome State Fault Refusal :=
  if !s.bootRx || !s.bootBam then .next (s.refuse .loopBeforeInit) else .next { s with cEn := true }

/-- `SER_BYTE v` (R225): the received byte, and the completion raised. -/
def execSerByte (v : Byte) (s : State) : Host.Outcome State Fault Refusal :=
  .next ({ s with serData := v }.raise .serial)

/-- `LATCH_SET l` (R226): a change of level is an edge, and an edge raises the latch request. -/
def execLatchSet (level : Bool) (s : State) : Host.Outcome State Fault Refusal :=
  if level != s.latchIn then .next ({ s with latchIn := level }.raise .latch) else .next s

end Sys2Proof.Machine
end

