-- ==== Sys2Proof/Machine/Reception.lean ====
section
/-! DEFINITION. The two services of the frame-reception state machine: `SVC_LATCH` (R181 to R183) and `SVC_SERIAL`
(R184). -/

namespace Sys2Proof.Machine

/-- The capture of the rising branch (R182): the read of `ser_data` clears `ser_flag` (R73). -/
def State.capture (s : State) : State :=
  { s with rxByte := s.serData, rxValid := true }.clearRequest .serial

/-- The body of the latch service (R181): the level when it runs tells the edge. -/
def State.latchService (s : State) : State :=
  let s := s.enterService .latch
  (if s.latchIn then
    { (if s.serFlag then s.capture else s) with serIe := true }
  else
    { s with serIe := false, cmdState := .awaitFirst }).leaveService

/-- `SVC_LATCH` (R181), enabled by R255. -/
def execSvcLatch (s : State) : Host.Outcome State Fault Refusal :=
  if s.serviceEnabled .latch then .next s.latchService else .refused (.serviceNotEnabled .latch)

/-- The body of the serial service (R184). `ser_data` is not read. -/
def State.serialService (s : State) : State :=
  let s := s.enterService .serial
  let s := s.rxClear
  (match s.cmdState with
  | .awaitSecond => s.resetBam.startBam
  | .awaitFirst => { s with cmdState := .awaitSecond }).leaveService

/-- `SVC_SERIAL` (R184), enabled by R255. -/
def execSvcSerial (s : State) : Host.Outcome State Fault Refusal :=
  if s.serviceEnabled .serial then .next s.serialService else .refused (.serviceNotEnabled .serial)

end Sys2Proof.Machine
end

