-- ==== Sys2Proof/Machine/Timer.lean ====
section
/-! DEFINITION. The step timer's `TICK` (R230). -/

namespace Sys2Proof.Machine

/-- One count of a running timer (R230): reload and request at expiry, else decrement. -/
def State.tick (s : State) : State :=
  if s.tmrCnt ≤ 1 then { s with tmrCnt := s.tmrReload }.raise .timer else { s with tmrCnt := s.tmrCnt - 1 }

/-- `TICK` (R230), enabled iff `tmr_run = 1`. -/
def execTick (s : State) : Host.Outcome State Fault Refusal :=
  if s.tmrRun then .next s.tick else .refused .timerStopped

end Sys2Proof.Machine
end

