-- ==== Sys2Proof/Machine/Dispatch.lean ====
section
/-! DEFINITION. The dispatch of a step to its meaning, one arm per row of R96. -/

namespace Sys2Proof.Machine

def exec (i : Instr) (s : State) : Host.Outcome State Fault Refusal :=
  match i with
  | .rxInit => Sys2Proof.Machine.execRxInit s
  | .rxStart => Sys2Proof.Machine.execRxStart s
  | .bamInit => Sys2Proof.Machine.execBamInit s
  | .gieSet => Sys2Proof.Machine.execGieSet s
  | .bamStart => Sys2Proof.Machine.execBamStart s
  | .loopStart => Sys2Proof.Machine.execLoopStart s
  | .bamReset => Sys2Proof.Machine.execBamReset s
  | .serByte v => Sys2Proof.Machine.execSerByte v s
  | .latchSet level => Sys2Proof.Machine.execLatchSet level s
  | .tick => Sys2Proof.Machine.execTick s
  | .svcTimer => Sys2Proof.Machine.execSvcTimer s
  | .svcLatch => Sys2Proof.Machine.execSvcLatch s
  | .svcSerial => Sys2Proof.Machine.execSvcSerial s
  | .cTest => Sys2Proof.Machine.execCTest s
  | .cAsm => Sys2Proof.Machine.execCAsm s
  | .cInc => Sys2Proof.Machine.execCInc s
  | .cClr => Sys2Proof.Machine.execCClr s

end Sys2Proof.Machine
end

