-- ==== Sys2Proof/Machine/Fetch.lean ====
section
/-! DEFINITION. Where the next step comes from. The block fetches nothing (R22, R74): the next step may be any enabled
step of any agent (R81). The schedule is therefore an input of the model, the event words of `script` (R101). -/

namespace Sys2Proof.Machine

/-- What the schedule offers next. -/
inductive Fetched where
  /-- The next step, and the words after it. -/
  | run (i : Instr) (rest : List EventWord)
  /-- The schedule is over. -/
  | done
  /-- The script holds an `INVALID` word, so none of it is run (R99). -/
  | rejected (w : EventWord)
deriving DecidableEq, Repr

/-- The first `INVALID` word of a script, if there is one (R99). -/
def firstInvalid (script : List EventWord) : Option EventWord :=
  script.find? fun w => (decode w).instr?.isNone

/-- Takes the next step off a script (R81, R99, R101). -/
def fetch (script : List EventWord) : Fetched :=
  match firstInvalid script with
  | some w => .rejected w
  | none =>
    match script with
    | [] => .done
    | w :: rest =>
      match decode w with
      | .step i => .run i rest
      | .invalid _ => .rejected w

/-- The outcome of what the schedule offers: the step's meaning, on the state with the step taken off the script. -/
def stepFetched (s : State) : Fetched → Host.Outcome State Fault Refusal
  | .run i rest => exec i { s with script := rest }
  | .done => .refused .scriptEnd
  | .rejected w => .refused (.invalidWord w)

end Sys2Proof.Machine
end

