-- ==== Sys2Proof/Machine/Step.lean ====
section
/-! DEFINITION. One step of the machine, and the state whose very next step is a given instruction. -/

namespace Sys2Proof.Machine

/-- One step of the machine: the schedule's next step, taken by its meaning (R80, R81). -/
def step (s : State) : Host.Outcome State Fault Refusal := stepFetched s (fetch s.script)

/-- `s` with the one event word `w` as the rest of its schedule: the next step is that word's. -/
def State.withFetchWord (s : State) (nbits w : Nat) : State := { s with script := [tableWord nbits w] }

end Sys2Proof.Machine
end

