-- ==== Sys2Proof/Machine/Display.lean ====
section
/-! DEFINITION. What the buffers and the driver chips show, channel by channel: the decoding of a buffer (R62, R169), where
a channel lands in the chains (R154) and whether its output is on (R153). -/

namespace Sys2Proof.Machine

/-- Channel `ch`'s bit of plane `p` in the buffer `f` (R62): the byte at the channel's position under its mask. -/
def channelBit (cfg : Config) (m : Memory) (f : Buffer) (ch : Fin 192) (p : Nat) : Bool :=
  m.read (bufAddr f (32 * p + cfg.pos ch)) &&& cfg.mask ch != 0

/-- `decode_f(c)` (R169): the value the buffer `f` holds for channel `ch`. -/
def decodeChannel (cfg : Config) (m : Memory) (f : Buffer) (ch : Fin 192) : Nat :=
  ((List.range nstep).map fun p => 2 ^ p * (channelBit cfg m f ch p).toNat).sum

/-- The chain a channel belongs to: the one whose data line its mask selects (R154). -/
def chainOf? (cfg : Config) (ch : Fin 192) : Option (Fin 6) :=
  (List.finRange 6).find? fun k => cfg.mask ch == (1 : Byte) <<< cfg.chainBit k

/-- The stage a channel's bit reaches after a transmission (R154): position 0 travels furthest. -/
def stageOf (cfg : Config) (ch : Fin 192) : Nat := 31 - cfg.pos ch

/-- A channel's bit in one register per chain: its chain's entry, its stage. -/
def chipBit (cfg : Config) (reg : Vector (BitVec 32) 6) (ch : Fin 192) : Bool :=
  match chainOf? cfg ch with
  | some k => reg[k].getLsbD (stageOf cfg ch)
  | none => false

/-- The output of channel `ch` is on (R153, R154). -/
def State.channelLit (s : State) (ch : Fin 192) : Bool :=
  match chainOf? s.cfg ch with
  | some k => outputOn s.lines s.chips k (stageOf s.cfg ch)
  | none => false

/-- The electrical levels of the output lines (R8, R94): `DATA` line by line, then `CLK`, `LAT`, `BLANK`. -/
def State.electricalLines (s : State) : Lines where
  data := match s.cfg.raw.polData with
    | .activeHigh => s.lines.data
    | .activeLow => ~~~s.lines.data
  clk := s.cfg.raw.polClk.electrical s.lines.clk
  lat := s.cfg.raw.polLat.electrical s.lines.lat
  blank := s.cfg.raw.polBlank.electrical s.lines.blank

/-- The electrical level of the latch line (U16, R94). -/
def State.electricalLatchIn (s : State) : Bool := s.cfg.raw.polLatchIn.electrical s.latchIn

end Sys2Proof.Machine
end

