-- ==== Sys2Proof/Machine/Schedule.lean ====
section
/-! DEFINITION. Schedules: which steps are enabled (R81, R103), a run of steps, the check of a script (R103), the optional
fixed service order (R256), and what a run shows (R128, R139). -/

namespace Sys2Proof.Machine

/-- A step is enabled (R81, R103): a host step always, `TICK` iff the timer runs, a service iff the dispatcher admits it,
a consumer step iff it is the one `c_phase` names. -/
def enabled (i : Instr) (s : State) : Bool :=
  match i with
  | .rxInit | .rxStart | .bamInit | .gieSet | .bamStart | .loopStart | .bamReset => true
  | .serByte _ | .latchSet _ => true
  | .tick => s.tmrRun
  | .svcTimer => s.serviceEnabled .timer
  | .svcLatch => s.serviceEnabled .latch
  | .svcSerial => s.serviceEnabled .serial
  | .cTest => s.consumerEnabled .test
  | .cAsm => s.consumerEnabled .asm
  | .cInc => s.consumerEnabled .inc
  | .cClr => s.consumerEnabled .clr

/-- Why a host operation is refused, if it is: the table of R227. -/
def refusalReason (i : Instr) (s : State) : Option RefuseReason :=
  match i with
  | .rxInit | .bamInit => if s.gie then some .initWhileServicesEnabled else none
  | .rxStart => if s.bootRx then none else some .startBeforeInit
  | .bamStart => if s.bootBam then none else some .startBeforeInit
  | .bamReset => if s.bootBam then none else some .resetBeforeInit
  | .gieSet => if s.bootRx && s.bootBam then none else some .enableBeforeInit
  | .loopStart => if s.bootRx && s.bootBam then none else some .loopBeforeInit
  | .serByte _ | .latchSet _ | .tick | .svcTimer | .svcLatch | .svcSerial => none
  | .cTest | .cAsm | .cInc | .cClr => none

/-- A run of steps, in order (R80): it stops at the first step that is not taken. -/
def runSteps : List Instr → State → Host.Outcome State Fault Refusal
  | [], s => .next s
  | i :: is, s =>
    match exec i s with
    | .next t => runSteps is t
    | .fault r => .fault r
    | .refused r => .refused r

/-- A script is well-formed from a state: each of its steps is enabled where it stands (R103, U6). -/
def scriptOk : List Instr → State → Bool
  | [], _ => true
  | i :: is, s =>
    enabled i s &&
      match exec i s with
      | .next t => scriptOk is t
      | .fault _ => false
      | .refused _ => false

/-- A fixed service order is a permutation of the three services (R256). -/
abbrev ServiceOrder (order : List Service) : Prop := order.Perm [.timer, .latch, .serial]

/-- One step of a model that takes the optional parameter `SVC_ORDER` (R256): the first enabled service in that order
runs before any other step. The machine's own `step` fixes no order.

DESIGN CHOICE (unsafe; log entry 12): the spec does not say how this parameter and a script that names every step (R101)
go together. Here an enabled service runs before the script is looked at and takes no word off it, also where the script
is over or holds an INVALID word (R99). A word of the script that names the service then stands where it stood, and is
refused later (`serviceNotEnabled`) unless a new request has come. -/
def stepOrdered (order : List Service) (s : State) : Host.Outcome State Fault Refusal :=
  match order.find? s.serviceEnabled with
  | some svc => exec svc.instr s
  | none => step s

/-- The step forces the step counter to 0: it does `BamReset`, or the reset of `BAM_INIT`. -/
def resetsStep (i : Instr) (s : State) : Bool :=
  match i with
  | .bamReset => s.bootBam
  | .bamInit => !s.gie
  | .svcSerial => s.cmdState == .awaitSecond
  | .rxInit | .rxStart | .gieSet | .bamStart | .loopStart | .serByte _ | .latchSet _ => false
  | .tick | .svcTimer | .svcLatch | .cTest | .cAsm | .cInc | .cClr => false

/-- Every step of a run meets a check in the state where it stands. -/
def runAll (ok : Instr → State → Bool) : List Instr → State → Bool
  | [], _ => true
  | i :: is, s =>
    ok i s &&
      match exec i s with
      | .next t => runAll ok is t
      | .fault _ => true
      | .refused _ => true

/-- The values of `bam_step` that the timer services of a run read at their entries (R128). -/
def stepReads : List Instr → State → List (BitVec 3)
  | [], _ => []
  | i :: is, s =>
    (if i = .svcTimer then [s.bamStep] else []) ++
      match exec i s with
      | .next t => stepReads is t
      | .fault _ => []
      | .refused _ => []

/-- A run is prompt: no tick comes while a timer request waits (R139, R269).

DESIGN CHOICE (unsafe; log entry 23): R139 speaks of every `SVC_TIMER` and its request, R269 of any enabled service. Here
only the timer's request `tmr_pend` counts, whatever `gie` holds, so a tick with `tmr_pend = 1` and `gie = 0` already
breaks it; a tick while a latch or serial service is enabled does not. -/
def prompt : List Instr → State → Bool := runAll fun i s => !(i == .tick && s.tmrPend)

/-- The ticks of a run during which channel `ch` is on (R139). A tick is the unit of time, and no other step takes time
(R230). -/
def litTicks (ch : Fin 192) : List Instr → State → Nat
  | [], _ => 0
  | i :: is, s =>
    (if i = .tick ∧ s.channelLit ch then 1 else 0) +
      match exec i s with
      | .next t => litTicks ch is t
      | .fault _ => 0
      | .refused _ => 0

/-- One BAM cycle with no other step in it: each service, then the ticks of its step (R129, R139). -/
def cycleSteps (cfg : Config) : List Instr :=
  (List.range nstep).flatMap fun p => .svcTimer :: List.replicate (cfg.period (BitVec.ofNat 3 p)) .tick

end Sys2Proof.Machine
end

