-- ==== Sys2Proof/Machine/Script.lean ====
section
/-! DEFINITION. Scripts as text (R101), their pseudo-steps (R102), the boot order (R300), and the stimuli of the upstream
protocol (R93, R236, R237). -/

namespace Sys2Proof.Machine

/-- One line of a script: a step or a pseudo-step (R101, R102). -/
inductive Item where
  /-- A step. -/
  | one (i : Instr)
  /-- `BOOT`. -/
  | boot
  /-- `WAIT n`. -/
  | wait (n : Nat)
  /-- `STEP`. -/
  | step
  /-- `POLL`. -/
  | poll
  /-- `BYTE v`. -/
  | byte (v : Byte)
  /-- `NODATA`. -/
  | nodata
deriving DecidableEq, Repr

/-- The boot order (R300), the expansion of `BOOT`. -/
def bootOrder : List Instr := [.rxInit, .bamInit, .gieSet, .bamStart, .loopStart]

/-- How many ticks raise the timer request: none if it is raised already (R102, R230). -/
def ticksToPend (s : State) : Nat := if s.tmrPend then 0 else max 1 s.tmrCnt

/-- `STEP` (R102): ticks until the request is raised, then `SVC_TIMER`. Not enabled with the timer stopped and no
request raised. -/
def stepMacro (s : State) : Option (List Instr) :=
  if s.tmrPend || s.tmrRun then some (List.replicate (ticksToPend s) .tick ++ [.svcTimer]) else none

/-- `POLL` (R102): `C_TEST`, then the rest of the call only if `c_phase = ASM` after it. -/
def pollMacro (s : State) : List Instr :=
  match exec .cTest s with
  | .next t => if t.cPhase = .asm then [.cTest, .cAsm, .cInc, .cClr] else [.cTest]
  | .fault _ => [.cTest]
  | .refused _ => [.cTest]

/-- The steps of a data byte up to its capture (R102, R236): the transfer completes before the rising edge. -/
def byteHead (v : Byte) : List Instr := [.serByte v, .latchSet true, .svcLatch]

/-- The falling edge that ends a data byte or a command (R236, R237). -/
def byteTail : List Instr := [.latchSet false, .svcLatch]

/-- `BYTE v` (R102), its `POLL` expanded in the state reached there. -/
def byteMacro (v : Byte) (s : State) : List Instr :=
  match runSteps (byteHead v) s with
  | .next t => byteHead v ++ pollMacro t ++ byteTail
  | .fault _ => byteHead v
  | .refused _ => byteHead v

/-- `NODATA` (R102): a transfer with the latch asserted, and its service. -/
def nodataMacro : List Instr := [.serByte 0x00, .svcSerial]

/-- The steps a line of a script stands for, in the state reached there (R102); none if it is not enabled. -/
def Item.expand : Item → State → Option (List Instr)
  | .one i, _ => some [i]
  | .boot, _ => some bootOrder
  | .wait n, _ => some (List.replicate n .tick)
  | .step, s => stepMacro s
  | .poll, s => some (pollMacro s)
  | .byte v, s => some (byteMacro v s)
  | .nodata, _ => some nodataMacro

/-- The steps a whole script stands for, from its start state (R101, R102); none if a line is not enabled where it
stands (R103). -/
def expandScript : List Item → State → Option (List Instr)
  | [], _ => some []
  | it :: its, s =>
    match it.expand s with
    | none => none
    | some is =>
      match runSteps is s with
      | .next t => (expandScript its t).map fun rest => is ++ rest
      | .fault _ => none
      | .refused _ => none

/-- The event words of a sequence of steps (R100). -/
def wordsOf (is : List Instr) : List EventWord := is.map encode

/-- The "reset buffer" command after a captured byte, the latch still asserted (R93, R237). -/
def resetBufferSteps (x : Byte) : List Instr := [.serByte x, .svcSerial] ++ byteTail

/-- The "reset & resynchronize BAM cycle" command (R93, R237). -/
def resyncSteps (x y : Byte) : List Instr := [.serByte x, .svcSerial, .serByte y, .svcSerial] ++ byteTail

/-! ## Script text -/

/-- White space within a line. -/
def isBlank (c : Char) : Bool := c == ' ' || c == '\t' || c == '\r'

/-- Cuts a list at every element that meets `p`, dropping those elements. -/
def cutAt (p : Char → Bool) : List Char → List (List Char)
  | [] => [[]]
  | c :: cs =>
    if p c then [] :: cutAt p cs
    else
      match cutAt p cs with
      | [] => [[c]]
      | w :: ws => (c :: w) :: ws

/-- The words of a line, its comment left out: text from `;` to the end of the line (R101). -/
def lineWords (line : List Char) : List (List Char) :=
  (cutAt isBlank (line.takeWhile fun c => c != ';')).filter fun w => !w.isEmpty

/-- The value of a digit in a base up to 16. -/
def digitValue (base : Nat) (c : Char) : Option Nat :=
  let n := c.toNat
  let v :=
    if 48 ≤ n ∧ n ≤ 57 then n - 48
    else if 97 ≤ n ∧ n ≤ 102 then n - 87
    else if 65 ≤ n ∧ n ≤ 70 then n - 55
    else 16
  if v < base then some v else none

/-- Reads digits in a base, `acc` standing before them. -/
def readDigits (base acc : Nat) : List Char → Option Nat
  | [] => some acc
  | c :: cs =>
    match digitValue base c with
    | some v => readDigits base (acc * base + v) cs
    | none => none

/-- A number in decimal or with a `0x` prefix (R101). -/
def readNumber : List Char → Option Nat
  | [] => none
  | ['0', 'x'] => none
  | '0' :: 'x' :: ds => readDigits 16 0 ds
  | ds => readDigits 10 0 ds

/-- The pseudo-step of a name and its number, if it has one (R102). -/
def readPseudo (name : List Char) (operand : Option Nat) : Option Item :=
  match operand with
  | none =>
    if name = "BOOT".toList then some .boot
    else if name = "STEP".toList then some .step
    else if name = "POLL".toList then some .poll
    else if name = "NODATA".toList then some .nodata
    else none
  | some n =>
    if name = "WAIT".toList then some (.wait n)
    else if name = "BYTE".toList then (if n < 256 then some (.byte (BitVec.ofNat 8 n)) else none)
    else none

/-- The step or pseudo-step of a name and its number, if it has one (R101, R102). -/
def readItem (name : List Char) (operand : Option Nat) : Option Item :=
  match Mnemonic.all.find? fun m => m.text == name with
  | some m => (Spelling.toInstr? ⟨m, operand⟩).map Item.one
  | none => readPseudo name operand

/-- Reads one line (R101): no item for a line of white space and comment, none at all for a line that is no step. -/
def readLine (line : List Char) : Option (List Item) :=
  match lineWords line with
  | [] => some []
  | [name] => (readItem name none).map fun it => [it]
  | [name, num] =>
    match readNumber num with
    | some n => (readItem name (some n)).map fun it => [it]
    | none => none
  | _ :: _ :: _ :: _ => none

/-- Reads a script, one step a line (R101). -/
def readScript (text : List Char) : Option (List Item) :=
  ((cutAt (fun c => c == '\n') text).mapM readLine).map List.flatten

end Sys2Proof.Machine
end

