-- ==== Sys2Proof/Machine/Duties.lean ====
section
/-! DEFINITION. The host's duties (R235), as checks of a run. What a stimulus is meant as is the upstream sender's own, so
a run is given here with the sender's purposes. A run that breaks a duty is still a run: no step reads a duty. The
readings are log entry 15 (DEDUCED). -/

namespace Sys2Proof.Machine

/-- What the upstream sender means a transfer or a rising edge as (R235 H-byte, R236, R237). -/
inductive Purpose where
  /-- A transfer that is a data byte; a rising edge that should capture one. -/
  | dataByte
  /-- A transfer that is a command. -/
  | command
  /-- A stimulus that is meant as neither. -/
  | other
deriving DecidableEq, Repr

/-- A step of a run with its purpose. The purpose is read only on a transfer and on a rising edge. -/
structure Planned where
  /-- The step. -/
  step : Instr
  /-- What the sender means it as. -/
  meant : Purpose
deriving DecidableEq, Repr

/-- Steps that are all meant as one thing. -/
def planned (m : Purpose) (run : List Instr) : List Planned := run.map fun i => ⟨i, m⟩

/-- The steps of a plan. -/
def planSteps (plan : List Planned) : List Instr := plan.map Planned.step

/-- How far the upstream sender is with its data byte (R236, R237). -/
structure Sender where
  /-- A data byte's transfer is complete, and the rising edge that should capture it has not come. -/
  byteSent : Bool
  /-- The latch line is asserted since a rising edge that should capture a data byte. -/
  framing : Bool
  /-- The transfers meant as commands since that edge. -/
  commands : Nat
deriving DecidableEq, Repr

/-- The sender before its first stimulus. -/
def Sender.start : Sender := ⟨false, false, 0⟩

/-- The step is a completed transfer (R225). -/
def isTransfer (i : Instr) : Bool :=
  match i with
  | .serByte _ => true
  | .rxInit | .rxStart | .bamInit | .gieSet | .bamStart | .loopStart | .bamReset | .latchSet _ => false
  | .tick | .svcTimer | .svcLatch | .svcSerial | .cTest | .cAsm | .cInc | .cClr => false

/-- The step is a rising edge of the latch line (R226). -/
def isRise (i : Instr) (s : State) : Bool := i == .latchSet true && !s.latchIn

/-- The step is a falling edge of the latch line (R226). -/
def isFall (i : Instr) (s : State) : Bool := i == .latchSet false && s.latchIn

/-- The rising edge that should capture a data byte (R235 H-byte). -/
def Planned.captures (p : Planned) (s : State) : Bool := isRise p.step s && p.meant == .dataByte

/-- The sender after a step. -/
def Sender.after (h : Sender) (p : Planned) (s : State) : Sender :=
  if isTransfer p.step then
    match p.meant with
    | .dataByte => { h with byteSent := true }
    | .command => { h with commands := h.commands + 1 }
    | .other => h
  else if p.captures s then ⟨false, true, 0⟩
  else if isRise p.step s || isFall p.step s then { h with framing := false, commands := 0 }
  else h

/-- Every step of a plan meets a check of the sender and the state where it stands. -/
def planAll (ok : Sender → Planned → State → Bool) : Sender → List Planned → State → Bool
  | _, [], _ => true
  | h, p :: ps, s =>
    ok h p s &&
      match exec p.step s with
      | .next t => planAll ok (h.after p s) ps t
      | .fault _ => true
      | .refused _ => true

/-- An entry point of the startup order (R300). -/
def isBootCall (i : Instr) : Bool := bootOrder.contains i

/-- H-boot, on a run from power-on: the first calls of the entry points of R300 come in its order, and no entry point is
called where R227 refuses it. So `RX_START` comes only after `RX_INIT` (R300), `BAM_RESET` only after `BAM_INIT` (R126),
and the inits are not repeated after `GIE_SET` (R228). -/
def dutyBoot (run : List Instr) (s : State) : Bool :=
  (run.filter isBootCall).eraseDups.isPrefixOf bootOrder && runAll (fun i s => (refusalReason i s).isNone) run s

/-- H-latch, on a run from power-on: the latch line is deasserted where the run starts. -/
def dutyLatch (s : State) : Bool := !s.latchIn

/-- H-pace: the rising edge of a data byte comes only when the consumer has taken the byte before. -/
def dutyPace (plan : List Planned) (s : State) : Bool :=
  planAll (fun _ p s => !p.captures s || (!s.rxValid && s.cPhase == .test)) .start plan s

/-- H-byte: a data byte's transfer is complete before the rising edge that should capture it, and a transfer between that
edge and the next falling edge is meant as a command. -/
def dutyByte (plan : List Planned) (s : State) : Bool :=
  planAll (fun h p s =>
    (!p.captures s || h.byteSent) && (!(isTransfer p.step && h.framing) || p.meant == .command)) .start plan s

/-- H-shape: a command's transfer comes after a captured data byte while the latch line stays asserted, each after the
service of the one before, and there are one or two of them (R93, R237). -/
def dutyShape (plan : List Planned) (s : State) : Bool :=
  planAll (fun h p s =>
    !(isTransfer p.step && p.meant == .command) ||
      (h.framing && decide (h.commands < 2) && !s.latPend && !s.serFlag)) .start plan s

/-- A run keeps every duty of R235. -/
def keepsDuties (plan : List Planned) (s : State) : Bool :=
  dutyBoot (planSteps plan) s && dutyLatch s && dutyPace plan s && dutyByte plan s && dutyShape plan s

end Sys2Proof.Machine
end

