-- ==== Sys2Proof/Machine/Timing.lean ====
section
/-! DEFINITION. The timing layer (R310, R317): how long a step takes, the transmission budget, and when a run can be laid
out on the clock. No functional rule reads any of it. -/

namespace Sys2Proof.Machine

/-- The length of a delay, in seconds (R8). -/
def delayTime (cfg : Config) : Delay → Rat
  | .tLo => cfg.raw.tLo
  | .tHi => cfg.raw.tHi
  | .tLat => cfg.raw.tLat
  | .tClr => cfg.raw.tClr

/-- The time a record stands for: a wait's delay, nothing for a driven line (R317). -/
def recordTime (cfg : Config) : Record → Rat
  | .wait t => delayTime cfg t
  | .data _ => 0
  | .clk _ => 0
  | .lat _ => 0
  | .blank _ => 0

/-- The sum of the waits of a list of records (R317). -/
def waitTime (cfg : Config) (rs : List Record) : Rat := (rs.map (recordTime cfg)).sum

/-- `D_TX`: the least duration of a timer service (R310). -/
def transmitTime (cfg : Config) : Rat := 2 * cfg.raw.tLat + 32 * (cfg.raw.tLo + cfg.raw.tHi)

/-- The timing budget a timed implementation must meet, `lat` being its worst latency `L` (R310). -/
abbrev MeetsBudget (cfg : Config) (lat : Rat) : Prop :=
  transmitTime cfg + lat < (cfg.period 0 : Rat) / cfg.raw.tickHz

/-- A step on the clock: a tick, or work of some duration (R317). -/
inductive Timed where
  /-- A `TICK`: it happens at its own time and takes none. -/
  | tick
  /-- Any other step. -/
  | work (d : Rat)
deriving DecidableEq, Repr

/-- A step that took `s` to `t`, on the clock (R317): the waits it recorded plus the overhead `ovh` of the step. -/
def timedStep (ovh : Instr → Rat) (i : Instr) (s t : State) : Timed :=
  if i = .tick then .tick else .work (waitTime s.cfg (t.busTrace.drop s.busTrace.length) + ovh i)

/-- A run's steps on the clock (R317). -/
def timedRun (ovh : Instr → Rat) : List Instr → State → List Timed
  | [], _ => []
  | i :: is, s =>
    match exec i s with
    | .next t => timedStep ovh i s t :: timedRun ovh is t
    | .fault _ => []
    | .refused _ => []

/-- The steps start at the given times, in order, none before the one before it has ended, and the `k`-th tick at
`k / TICK_HZ` (R317); `k` ticks came before and the clock stands at `now`. -/
def LaidOut (hz : Rat) : Nat → Rat → List Timed → List Rat → Prop
  | _, _, [], [] => True
  | k, now, .tick :: ts, t :: starts => now ≤ t ∧ t = ((k + 1 : Nat) : Rat) / hz ∧ LaidOut hz (k + 1) t ts starts
  | k, now, .work d :: ts, t :: starts => now ≤ t ∧ LaidOut hz k (t + d) ts starts
  | _, _, [], _ :: _ => False
  | _, _, _ :: _, [] => False

/-- A run is timed-feasible (R317): its steps can be laid out on the clock. -/
def TimedFeasible (hz : Rat) (run : List Timed) : Prop := ∃ starts, LaidOut hz 0 0 run starts

/-- The run laid out with every step as early as it can be, from the clock at `now` after `k` ticks. -/
def feasibleFrom (hz : Rat) : Nat → Rat → List Timed → Bool
  | _, _, [] => true
  | k, now, .tick :: ts => decide (now ≤ ((k + 1 : Nat) : Rat) / hz) && feasibleFrom hz (k + 1) (((k + 1 : Nat) : Rat) / hz) ts
  | k, now, .work d :: ts => feasibleFrom hz k (now + d) ts

end Sys2Proof.Machine
end

