-- ==== Sys2Proof/Safety.lean ====
section
/-! DEFINITION. What claims about the tile core speak of: the invariants of reachable states (R52, R62, R134, R195), the
agreement of the driver chips with the trace (R150), and the states and runs they start from. The host's duties (R235) are
in Machine/Duties.lean. -/

namespace Sys2Proof.Machine

/-- BUF is in canonical form. -/
abbrev MemOk (s : State) : Prop := s.mem.wf

/-- The byte counter and the consumer's snapshot (R52 items 1 and 2, R195): between `C_TEST` and `C_INC` the counter is
below 192. -/
abbrev CountOk (s : State) : Prop :=
  s.rxCount.toNat ≤ 192 ∧ ((s.cPhase = .asm ∨ s.cPhase = .inc) → s.rxCount.toNat < 192) ∧
    (s.cPhase = .asm → s.cCh.toNat < 192)

/-- The timer (R52 item 4, R230): after `BAM_INIT` the count and the reload value are periods, never 0, and the timer
runs only after `BAM_INIT`. -/
abbrev TimerOk (s : State) : Prop :=
  (s.bootBam = true → 1 ≤ s.tmrCnt ∧ s.tmrCnt ≤ s.cfg.period 7 ∧ 1 ≤ s.tmrReload ∧ s.tmrReload ≤ s.cfg.period 7) ∧
    (s.tmrRun = true → s.bootBam = true)

/-- The boot bookkeeping (R54, R221 to R224, R303): services and consumer are enabled only after both inits, the latch
and serial services only after theirs. -/
abbrev BootOk (s : State) : Prop :=
  (s.gie = true → s.bootRx = true ∧ s.bootBam = true) ∧ (s.cEn = true → s.bootRx = true ∧ s.bootBam = true) ∧
    (s.latIe = true → s.bootRx = true) ∧ (s.serIe = true → s.gie = true) ∧ (s.cPhase ≠ .test → s.cEn = true)

/-- The lines between steps (R134, R292): clock and latch low, outputs blanked until `BAM_INIT` has run and not after. -/
abbrev LinesOk (s : State) : Prop := s.lines.clk = false ∧ s.lines.lat = false ∧ s.lines.blank = !s.bootBam

/-- The lanes of BUF that carry no channel stay 0 (R62). -/
def LanesOk (s : State) : Prop := ∀ a : BufAddr, s.mem.read a &&& ~~~s.cfg.chainMask = 0

/-- What holds in every state between steps (R52, R62, R134, R195). -/
def Inv (s : State) : Prop := MemOk s ∧ CountOk s ∧ TimerOk s ∧ BootOk s ∧ LinesOk s ∧ LanesOk s

/-- The lines and the driver chips are what the trace since power-on makes of some power-on contents (R46, R150). -/
def ObserverAgrees (s : State) : Prop :=
  ∃ c₀ : Chips, observe s.cfg (Lines.powerOn, c₀) s.busTrace = (s.lines, s.chips)

/-- The shift registers hold plane `n` of the front buffer (R154): each chain's stage `i` has the bit of the byte at
position `31 - i`. -/
def HoldsPlane (s : State) (reg : Vector (BitVec 32) 6) (n : BitVec 3) : Prop :=
  ∀ (k : Fin 6) (i : Fin 32),
    reg[k].getLsbD i =
      (s.mem.read (bufAddr s.frontSel (stepOffset n + (31 - i.val)))).getLsbD (s.cfg.chainBit k)

/-- The driver chips with every bit 0, as `ChipClear` leaves them (R154). -/
def darkChips : Chips := ⟨Vector.replicate 6 0, Vector.replicate 6 0⟩

/-- The records of `BAM_INIT` (R121): the idle levels, the chip clear, the unblanking. -/
def bamInitRecords : List Record :=
  [.blank true, .lat false, .clk false, .data 0x00] ++ chipClearRecords ++ [.blank false]

/-- The records of a timer service that transmits plane `n` of the buffer `f` (R127, R130, R131). -/
def timerServiceRecords (m : Memory) (f : Buffer) (n : BitVec 3) : List Record :=
  [.lat true, .wait .tLat] ++ transmitRecords m f n

/-- The steps of a data byte and its assembly, the consumer not disturbed (R102 `BYTE`, R236). -/
def dataByteSteps (v : Byte) : List Instr := byteHead v ++ [.cTest, .cAsm, .cInc, .cClr] ++ byteTail

/-- Booted and idle, as the host's pacing leaves the reception between data bytes (R235 H-pace, R236): services and
consumer enabled, the latch deasserted and its edge serviced, no byte and no command under way. -/
abbrev Idle (s : State) : Prop :=
  s.gie = true ∧ s.latIe = true ∧ s.cEn = true ∧ s.latchIn = false ∧ s.latPend = false ∧ s.serIe = false ∧
    s.serFlag = false ∧ s.rxValid = false ∧ s.cPhase = .test ∧ s.cmdState = .awaitFirst

end Sys2Proof.Machine
end

