-- ==== Sys2Proof/Certificates/Slice0/Obligations.lean ====
section
/-! DEFINITION. The statements about the tile core, for the provers. Each docstring names the rules it formalises. -/

open Sys2Proof Sys2Proof.Machine

/-! ## Encoding (R95 to R99) -/

/-- Every step is well-formed, and decoding its event word gives it back, with its operand (R95 to R98). -/
def Obligations.DecodeOfEncode : Prop :=
  ∀ i : Instr, i.wf = true ∧ decode (encode i) = .step i

/-- A word that spells a step is that step's word: no bit of a word is dropped (R95 to R98). -/
def Obligations.EncodeOfDecode : Prop :=
  ∀ (w : EventWord) (i : Instr), decode w = .step i → encode i = w

/-- A word spells a step of a row of the opcode map exactly when its bits under the row's mask are the row's match bits;
so no word falls under two rows (R96, R98). -/
def Obligations.DecoderFollowsOpcodeMap : Prop :=
  ∀ (w : EventWord) (m : Mnemonic), m.covers w = true ↔ ∃ i : Instr, decode w = .step i ∧ i.mnemonic = m

/-- Every word with a reserved op, and every word with an operand bit set where its row requires 0, is rejected by name;
nothing else is (R99). -/
def Obligations.InvalidWordsRejectedByName : Prop :=
  ∀ w : EventWord,
    (decode w = .invalid (.reservedOp w) ↔ ∀ m : Mnemonic, m.op ≠ opOf w) ∧
    (decode w = .invalid (.nonzeroArg w) ↔ (∃ m : Mnemonic, m.op = opOf w) ∧ ∀ m : Mnemonic, m.covers w = false)

/-- A few words written out from the opcode map decode to the steps they stand for (R96, R98). -/
def Obligations.WrittenWordsDecode : Prop :=
  decode 0x0100 = .step .rxInit ∧ decode 0x0700 = .step .bamReset ∧ decode 0x10A5 = .step (.serByte 0xA5) ∧
  decode 0x1101 = .step (.latchSet true) ∧ decode 0x1102 = .invalid (.nonzeroArg 0x1102) ∧
  decode 0x2000 = .step .tick ∧ decode 0x3200 = .step .svcSerial ∧ decode 0x4300 = .step .cClr ∧
  decode 0x0800 = .invalid (.reservedOp 0x0800)

/-! ## The schedule (R81, R99, R101) -/

/-- One step of the machine is the meaning of the step the schedule's first word decodes to, on the state with that word
taken off the schedule. -/
def Obligations.StepRunsDecodedStep : Prop :=
  ∀ (s : State) (w : EventWord) (rest : List EventWord) (i : Instr),
    s.script = w :: rest → (∀ v ∈ rest, ∃ j : Instr, decode v = .step j) → decode w = .step i → i.wf = true →
      step s = exec i { s with script := rest }

/-- A script that holds a word which spells no step is rejected, and none of it is run (R99, U5). -/
def Obligations.InvalidScriptNeverRuns : Prop :=
  ∀ (s : State) (w : EventWord), w ∈ s.script → (∀ i : Instr, decode w ≠ .step i) →
    ∃ v ∈ s.script, (∀ i : Instr, decode v ≠ .step i) ∧ step s = .refused (.invalidWord v)

/-! ## Reset and boot (R53, R290 to R302) -/

/-- Power-on reset: every register, line and bookkeeping bit at its power-on value, BUF all zero, the trace empty; and no
step but a host step can be taken (R53, R291, R293). -/
def Obligations.PowerOnReset : Prop :=
  (State.reset.bamStep = 0 ∧ State.reset.frontSel = .a ∧ State.reset.tmrRun = false ∧ State.reset.tmrCnt = 0 ∧
    State.reset.tmrReload = 0 ∧ State.reset.tmrPend = false ∧ State.reset.gie = false ∧ State.reset.latchIn = false ∧
    State.reset.latPend = false ∧ State.reset.latIe = false ∧ State.reset.serData = 0 ∧ State.reset.serFlag = false ∧
    State.reset.serIe = false ∧ State.reset.rxByte = 0 ∧ State.reset.rxCount = 0 ∧ State.reset.rxValid = false ∧
    State.reset.cmdState = .awaitFirst ∧ State.reset.cEn = false ∧ State.reset.cPhase = .test ∧
    State.reset.cVal = 0 ∧ State.reset.cCh = 0 ∧ State.reset.lines = ⟨0x00, false, false, true⟩ ∧
    State.reset.busTrace = [] ∧ State.reset.refused = false ∧ State.reset.bootRx = false ∧
    State.reset.bootBam = false) ∧
  (∀ a : BufAddr, State.reset.mem.read a = 0x00) ∧
  ∀ i : Instr, i.agent ≠ .host → ∃ r : Refusal, exec i State.reset = .refused r

/-- The state after `BOOT` from power-on, whatever the configuration, the loaded script and the chips' power-on
contents; and the first timer service: it comes after `STEP_PERIOD[0]` ticks, reads step 0, latches the zeros of the
chip clear and transmits plane 1 of buffer A (R302). -/
def Obligations.StateAfterBoot : Prop :=
  ∀ (cfg : Config) (script : List EventWord) (chips : Chips),
    let s : State := { State.reset with cfg := cfg, script := script, chips := chips }
    let t : State := { s with
      tmrRun := true, tmrCnt := cfg.period 0, tmrReload := cfg.period 0, gie := true, latIe := true, cEn := true,
      lines := ⟨0x00, false, false, false⟩, bootRx := true, bootBam := true, busTrace := bamInitRecords,
      chips := darkChips }
    runSteps bootOrder s = .next t ∧
      (∀ k < cfg.period 0, ∃ u : State, runSteps (List.replicate k .tick) t = .next u ∧ u.tmrPend = false) ∧
      ∃ u v : State, runSteps (List.replicate (cfg.period 0) .tick) t = .next u ∧ u.tmrPend = true ∧ u.bamStep = 0 ∧
        exec .svcTimer u = .next v ∧ v.chips.out = darkChips.out ∧
        v.busTrace = bamInitRecords ++ timerServiceRecords t.mem .a 1 ∧ ∀ a : BufAddr, t.mem.read a = 0x00

/-! ## Host operations and stimuli (R121, R124, R126, R221 to R228) -/

/-- `RX_INIT` before services are enabled and `RX_START` after `RX_INIT`: their whole effect (R221, R222). -/
def Obligations.ReceptionEntryPoints : Prop :=
  ∀ s : State,
    (s.gie = false → exec .rxInit s = .next { s with
      rxByte := 0, rxCount := 0, rxValid := false, cmdState := .awaitFirst, serIe := false, latPend := false,
      latIe := true, bootRx := true }) ∧
    (s.bootRx = true → exec .rxStart s = .next { s with latIe := true })

/-- `GIE_SET` and `LOOP_START` after both inits: each sets its one bit (R223, R224). -/
def Obligations.GlobalEntryPoints : Prop :=
  ∀ s : State, s.bootRx = true → s.bootBam = true →
    exec .gieSet s = .next { s with gie := true } ∧ exec .loopStart s = .next { s with cEn := true }

/-- `BAM_START` and `BAM_RESET` after `BAM_INIT`: the start only sets the run bit, the reset stops the timer, forces step
0 and reloads step 0's period, and a pending timer request stays (R123 to R126). -/
def Obligations.BamStartAndReset : Prop :=
  ∀ s : State, s.bootBam = true →
    exec .bamStart s = .next { s with tmrRun := true } ∧
    exec .bamReset s = .next { s with
      tmrRun := false, bamStep := 0, tmrReload := s.cfg.period 0, tmrCnt := s.cfg.period 0 }

/-- `BAM_INIT` before services are enabled: its whole effect, every byte of BUF read as 0 after it, every bit of the
driver chips 0 (R121, R122, R154). -/
def Obligations.BamInitEffect : Prop :=
  ∀ s : State, s.gie = false → s.mem.wf →
    ∃ t : State, exec .bamInit s = .next t ∧ (∀ a : BufAddr, t.mem.read a = 0x00) ∧
      t = { s with
        mem := t.mem, frontSel := .a, bamStep := 0, tmrRun := false, tmrPend := false,
        tmrReload := s.cfg.period 0, tmrCnt := s.cfg.period 0, lines := ⟨0x00, false, false, false⟩,
        busTrace := s.busTrace ++ bamInitRecords, chips := darkChips, bootBam := true }

/-- A second `BAM_INIT` gives the same state as the first, except that the trace holds both sequences (R121). -/
def Obligations.BamInitTwice : Prop :=
  ∀ s : State, s.gie = false → s.mem.wf →
    ∃ t u : State, exec .bamInit s = .next t ∧ exec .bamInit t = .next u ∧
      u = { t with busTrace := t.busTrace ++ bamInitRecords }

/-- The stimuli: a transfer leaves its byte and its completion, in every state; a change of the latch level is an edge and
raises the request, an unchanged level does nothing (R225, R226). -/
def Obligations.UpstreamStimuli : Prop :=
  ∀ s : State,
    (∀ v : Byte, exec (.serByte v) s = .next { s with serData := v, serFlag := true }) ∧
    (∀ l : Bool, l ≠ s.latchIn → exec (.latchSet l) s = .next { s with latchIn := l, latPend := true }) ∧
    (∀ l : Bool, l = s.latchIn → exec (.latchSet l) s = .next s)

/-- The refusals: a host operation is refused exactly where the table of R227 says, with the table's reason, and then only
the mark is set; a step that is not refused leaves the mark as it was, and no other step is ever refused (R227, R47). -/
def Obligations.HostRefusals : Prop :=
  (∀ s : State,
    (refusalReason .rxInit s = if s.gie then some .initWhileServicesEnabled else none) ∧
    (refusalReason .bamInit s = if s.gie then some .initWhileServicesEnabled else none) ∧
    (refusalReason .rxStart s = if s.bootRx then none else some .startBeforeInit) ∧
    (refusalReason .bamStart s = if s.bootBam then none else some .startBeforeInit) ∧
    (refusalReason .bamReset s = if s.bootBam then none else some .resetBeforeInit) ∧
    (refusalReason .gieSet s = if s.bootRx ∧ s.bootBam then none else some .enableBeforeInit) ∧
    (refusalReason .loopStart s = if s.bootRx ∧ s.bootBam then none else some .loopBeforeInit) ∧
    ∀ i : Instr, (i.agent ≠ .host ∨ i.mnemonic = .serByte ∨ i.mnemonic = .latchSet) → refusalReason i s = none) ∧
  (∀ (i : Instr) (s : State) (r : RefuseReason),
    refusalReason i s = some r → exec i s = .next { s with refused := true }) ∧
  ∀ (i : Instr) (s t : State), refusalReason i s = none → exec i s = .next t → t.refused = s.refused

/-- `RX_START`, `GIE_SET`, `LOOP_START` and `BAM_START` may be repeated: a repeat changes nothing (R228). -/
def Obligations.RepeatedCallsChangeNothing : Prop :=
  ∀ (i : Instr) (s : State), i ∈ [Instr.rxStart, .gieSet, .loopStart, .bamStart] →
    ∃ t : State, exec i s = .next t ∧ exec i t = .next t

/-! ## The step timer (R129, R230) -/

/-- `TICK` with the timer running: expiry reloads and raises the request, any other tick counts down (R230). -/
def Obligations.TickEffect : Prop :=
  ∀ s : State, s.tmrRun = true →
    (s.tmrCnt ≤ 1 → exec .tick s = .next { s with tmrCnt := s.tmrReload, tmrPend := true }) ∧
    (1 < s.tmrCnt → exec .tick s = .next { s with tmrCnt := s.tmrCnt - 1 })

/-- After a timer service that reads step `p`, whatever other steps come in between, the next request is raised by exactly
the `STEP_PERIOD[p]`-th tick, unless a reset intervenes (R129). -/
def Obligations.NextExpiryAfterOnePeriod : Prop :=
  ∀ (s t u : State) (run : List Instr), exec .svcTimer s = .next t → runSteps run t = .next u →
    runAll (fun i s => !resetsStep i s) run t = true → .svcTimer ∉ run →
      (u.tmrPend = true ↔ s.cfg.period s.bamStep ≤ run.count .tick)

/-! ## The BAM engine (R127 to R139) -/

/-- `SVC_TIMER` with services enabled and a request pending: its whole effect on the block, and the lines after it: latch
and clock low, the data lines at the plane's last byte, blanking unchanged (R127, R128, R130 to R134). That the request
is cleared at entry is the spec's decision D7; the ascending byte order and the data lines' last value are its decision
D17. -/
def Obligations.TimerServiceEffect : Prop :=
  ∀ s : State, s.gie = true → s.tmrPend = true →
    ∃ t : State, exec .svcTimer s = .next t ∧ t.bamStep.toNat = (s.bamStep.toNat + 1) % 8 ∧
      t = { s with
        tmrPend := false, tmrRun := true, tmrReload := s.cfg.period s.bamStep, tmrCnt := s.cfg.period s.bamStep,
        bamStep := t.bamStep,
        lines := ⟨s.mem.read (bufAddr s.frontSel (32 * t.bamStep.toNat + 31)), false, false, s.lines.blank⟩,
        busTrace := s.busTrace ++ ([.lat true, .wait .tLat, .lat false, .wait .tLat] ++
          (List.range 32).flatMap fun i =>
            [.data (s.mem.read (bufAddr s.frontSel (32 * t.bamStep.toNat + i))), .wait .tLo, .clk true, .wait .tHi,
              .clk false]),
        chips := t.chips }

/-- The step counter: a timer service advances it by one modulo 8; the values the timer services of a run read are
consecutive modulo 8, whatever other steps come in between, as long as none resets the counter; over 8 of them each of
0..7 is read once, and from step 0 the ninth reads 0 (R128). -/
def Obligations.StepCounterCycles : Prop :=
  (∀ s t : State, exec .svcTimer s = .next t → t.bamStep.toNat = (s.bamStep.toNat + 1) % 8) ∧
  (∀ (s t : State) (run : List Instr), runSteps run s = .next t →
    runAll (fun i s => !resetsStep i s) run s = true →
      stepReads run s = (List.range (run.count .svcTimer)).map fun k => s.bamStep + BitVec.ofNat 3 k) ∧
  (∀ b : BitVec 3, ((List.range 8).map fun k => b + BitVec.ofNat 3 k).Perm ((List.range 8).map (BitVec.ofNat 3))) ∧
  ((List.range 9).map fun k => (0 : BitVec 3) + BitVec.ofNat 3 k) = [0, 1, 2, 3, 4, 5, 6, 7, 0]

/-- Where a channel lands: after a transmission of plane `n`, the clock low before it, stage `i` of chain `k` holds the bit
of the byte at position `31 - i`, so a channel at position `pos` sits at stage `31 - pos` of its chain; after the chip
clear every bit is 0 (R154). -/
def Obligations.TransmissionLandsPlane : Prop :=
  (∀ (s : State) (n : BitVec 3) (k : Fin 6) (i : Fin 32), s.lines.clk = false →
    (s.transmit n).chips.sr[k].getLsbD i =
      (s.mem.read (bufAddr s.frontSel (32 * n.toNat + (31 - i.val)))).getLsbD (s.cfg.chainBit k)) ∧
  (∀ (s : State) (n : BitVec 3) (c : Fin 192) (k : Fin 6), s.lines.clk = false →
    s.cfg.mask c = (1 : Byte) <<< s.cfg.chainBit k →
      (s.transmit n).chips.sr[k].getLsbD (31 - s.cfg.pos c) = channelBit s.cfg s.mem s.frontSel c n.toNat) ∧
  ∀ s : State, s.lines.clk = false → s.lines.lat = false → s.chipClear.chips = darkChips

/-- What is displayed: with plane `p` of the front buffer in the shift registers, the timer service that reads step `p`
moves it to the outputs, so that with the outputs not blanked exactly the channels with bit `p` set are on, and leaves the
next step's plane in the shift registers (R138). -/
def Obligations.ServiceShowsItsPlane : Prop :=
  ∀ s : State, s.gie = true → s.tmrPend = true → s.lines.clk = false → s.lines.lat = false →
    s.lines.blank = false → HoldsPlane s s.chips.sr s.bamStep →
      ∃ t : State, exec .svcTimer s = .next t ∧ t.chips.out = s.chips.sr ∧
        (∀ c : Fin 192, t.channelLit c = channelBit s.cfg s.mem s.frontSel c s.bamStep.toNat) ∧
        HoldsPlane t t.chips.sr t.bamStep

/-- BAM averaging: over one prompt BAM cycle of services and ticks, a channel whose value in the front buffer is `v` is on
for exactly `P0 * v` of the cycle's `255 * P0` ticks; the cycle ends where the next one starts (R139). That promptness
reads the timer's request alone is the model's choice between R139 and R269 (log entry 23, DESIGN CHOICE). -/
def Obligations.CycleShowsEveryValue : Prop :=
  ∀ s : State, s.gie = true → s.tmrPend = true → s.bamStep = 0 → s.lines.clk = false → s.lines.lat = false →
    s.lines.blank = false → HoldsPlane s s.chips.sr 0 →
      ∃ t : State, runSteps (cycleSteps s.cfg) s = .next t ∧ prompt (cycleSteps s.cfg) s = true ∧
        (cycleSteps s.cfg).count .tick = 255 * s.cfg.raw.p0 ∧
        (∀ c : Fin 192, litTicks c (cycleSteps s.cfg) s = s.cfg.raw.p0 * decodeChannel s.cfg s.mem s.frontSel c) ∧
        t.tmrPend = true ∧ t.bamStep = 0 ∧ HoldsPlane t t.chips.sr 0

/-- `Swap` exchanges the roles and copies no byte; two swaps give back the first roles; one does not (R137). -/
def Obligations.SwapIsInvolution : Prop :=
  ∀ s : State, s.swap.swap = s ∧ s.swap.mem = s.mem ∧ s.swap.frontSel = s.frontSel.other ∧
    s.swap.frontSel ≠ s.frontSel

/-! ## The channel map and the frame assembler (R9, R163 to R168) -/

/-- The channel map of a well-formed configuration reaches every lane of a plane: it is a bijection onto the byte
positions and chain masks (R9). -/
def Obligations.ChannelMapIsBijective : Prop :=
  ∀ (cfg : Config) (p : Fin 32) (k : Fin 6),
    ∃ c : Fin 192, (cfg.pos c = p.val ∧ cfg.mask c = (1 : Byte) <<< cfg.chainBit k) ∧
      ∀ d : Fin 192, cfg.pos d = p.val → cfg.mask d = (1 : Byte) <<< cfg.chainBit k → d = c

/-- After `Assemble(v, c)` with `c < 192`, the channel's bit of plane `p` in the back buffer is `v[p]` (R166). -/
def Obligations.AssembleReadsBack : Prop :=
  ∀ (s : State) (v c : Byte) (h : c.toNat < 192), s.mem.wf → ∀ p < 8,
    channelBit s.cfg (s.assemble v c).mem s.frontSel.other ⟨c.toNat, h⟩ p = v.getLsbD p

/-- `Assemble(v, c)` with `c < 192` changes no bit of BUF but the lane of channel `c` in the byte at its position of each
plane of the back buffer; so no byte of the front buffer and no lane outside `CHAIN_BITS` changes, nor any other state
(R167). -/
def Obligations.AssembleChangesOneLane : Prop :=
  ∀ (s : State) (v c : Byte) (h : c.toNat < 192), s.mem.wf →
    (∀ (a : BufAddr) (j : Nat), ((s.assemble v c).mem.read a).getLsbD j ≠ (s.mem.read a).getLsbD j →
      (s.cfg.mask ⟨c.toNat, h⟩).getLsbD j = true ∧
        ∃ p < 8, a = bufAddr s.frontSel.other (32 * p + s.cfg.pos ⟨c.toNat, h⟩)) ∧
    (∀ off < 256, (s.assemble v c).mem.read (bufAddr s.frontSel off) = s.mem.read (bufAddr s.frontSel off)) ∧
    (∀ a : BufAddr, (s.assemble v c).mem.read a &&& ~~~s.cfg.chainMask = s.mem.read a &&& ~~~s.cfg.chainMask) ∧
    s.assemble v c = { s with mem := (s.assemble v c).mem }

/-- Assembling the same byte into the same channel twice gives the state of assembling it once, and a channel index of 192
or more changes nothing (R163, R164). -/
def Obligations.AssembleTwiceIsOnce : Prop :=
  ∀ (s : State) (v c : Byte), s.mem.wf →
    (s.assemble v c).assemble v c = s.assemble v c ∧ (192 ≤ c.toNat → s.assemble v c = s)

/-- Full-frame round trip: a frame assembled in any order of its channels and then swapped in is read back from the front
buffer, bit by bit and value by value (R168, R169). -/
def Obligations.FrameRoundTrip : Prop :=
  ∀ (s : State) (img : Fin 192 → Byte) (order : List (Fin 192)), s.mem.wf → order.Perm (List.finRange 192) →
    let t := (order.foldl (fun (u : State) c => u.assemble (img c) (BitVec.ofNat 8 c.val)) s).swap
    ∀ c : Fin 192, (∀ p < 8, channelBit t.cfg t.mem t.frontSel c p = (img c).getLsbD p) ∧
      decodeChannel t.cfg t.mem t.frontSel c = (img c).toNat

/-! ## The reception services (R181 to R188) -/

/-- `SVC_LATCH` where the dispatcher admits it: the level when it runs tells the edge; a rising edge captures a completed
transfer and takes its completion, and enables the serial service in any case; a falling edge disables it and resets the
command state (R181 to R183). -/
def Obligations.LatchServiceEffect : Prop :=
  ∀ s : State, s.gie = true → s.latIe = true → s.latPend = true →
    (s.latchIn = true → s.serFlag = true → exec .svcLatch s = .next { s with
      latPend := false, rxByte := s.serData, serFlag := false, rxValid := true, serIe := true }) ∧
    (s.latchIn = true → s.serFlag = false → exec .svcLatch s = .next { s with latPend := false, serIe := true }) ∧
    (s.latchIn = false → exec .svcLatch s = .next { s with
      latPend := false, serIe := false, cmdState := .awaitFirst })

/-- `SVC_SERIAL` where the dispatcher admits it: the receive state is cleared; the first event steps the command state, any
later one resets and restarts the BAM engine and leaves the command state and a pending timer request (R184, R187). -/
def Obligations.SerialServiceEffect : Prop :=
  ∀ s : State, s.gie = true → s.serIe = true → s.serFlag = true →
    (s.cmdState = .awaitFirst → exec .svcSerial s = .next { s with
      serFlag := false, rxByte := 0, rxCount := 0, rxValid := false, cmdState := .awaitSecond }) ∧
    (s.cmdState = .awaitSecond → exec .svcSerial s = .next { s with
      serFlag := false, rxByte := 0, rxCount := 0, rxValid := false, tmrRun := true, bamStep := 0,
      tmrReload := s.cfg.period 0, tmrCnt := s.cfg.period 0 })

/-- Command disambiguation: one serviced transfer after the captured byte clears the receive state and does not reset the
BAM engine; a second one, whatever other steps come in between but a serviced falling edge, clears it again and resets and
restarts the BAM engine once (R186). -/
def Obligations.CommandDisambiguation : Prop :=
  ∀ (s t u v : State) (between : List Instr), s.cmdState = .awaitFirst → exec .svcSerial s = .next t →
    runSteps between t = .next u → .svcSerial ∉ between →
    runAll (fun i s => !(i == .svcLatch && !s.latchIn)) between t = true → exec .svcSerial u = .next v →
      t = { s with serFlag := false, rxByte := 0, rxCount := 0, rxValid := false, cmdState := .awaitSecond } ∧
      v = { u with
        serFlag := false, rxByte := 0, rxCount := 0, rxValid := false, tmrRun := true, bamStep := 0,
        tmrReload := u.cfg.period 0, tmrCnt := u.cfg.period 0 }

/-- A data byte whose transfer completed before its rising edge never runs `SVC_SERIAL`: after the capture the serial
service is not enabled until another transfer completes (R188). -/
def Obligations.CapturedByteIsNoCommand : Prop :=
  ∀ (s t u : State) (run : List Instr), s.latchIn = true → s.serFlag = true → exec .svcLatch s = .next t →
    runSteps run t = .next u → (∀ v : Byte, .serByte v ∉ run) →
      exec .svcSerial u = .refused (.serviceNotEnabled .serial)

/-! ## The consumer (R189 to R197, R236) -/

/-- `C_TEST` where it is enabled: nothing without a valid byte; below 192 the snapshot is taken; else the swap, with the
valid flag kept, the spec's decision D12 (R190). That a counter above 192, which no run reaches, takes the swap branch is
the model's reading of R190's `else` (log entry 16, DEDUCED). -/
def Obligations.ConsumerTestEffect : Prop :=
  ∀ s : State, s.cEn = true → s.cPhase = .test →
    (s.rxValid = false → exec .cTest s = .next s) ∧
    (s.rxValid = true → s.rxCount.toNat < 192 → exec .cTest s = .next { s with
      cVal := s.rxByte, cCh := s.rxCount, cPhase := .asm }) ∧
    (s.rxValid = true → 192 ≤ s.rxCount.toNat → exec .cTest s = .next { s with
      frontSel := s.frontSel.other, rxCount := 0 })

/-- `C_ASM` where it is enabled: the snapshot is assembled into the back buffer. The byte at the channel's position of each
plane has its lane set or cleared as the value's bit says; every other byte reads as before; a snapshot index of 192 or
more leaves every byte (R191, R163, R164). -/
def Obligations.ConsumerAssembleEffect : Prop :=
  ∀ s : State, s.cEn = true → s.cPhase = .asm → s.mem.wf →
    ∃ t : State, exec .cAsm s = .next t ∧ t = { s with mem := t.mem, cPhase := .inc } ∧
      (∀ h : s.cCh.toNat < 192,
        (∀ p < 8, t.mem.read (assembleAddr s.frontSel.other p (s.cfg.pos ⟨s.cCh.toNat, h⟩)) =
          if s.cVal.getLsbD p then
            s.mem.read (assembleAddr s.frontSel.other p (s.cfg.pos ⟨s.cCh.toNat, h⟩)) ||| s.cfg.mask ⟨s.cCh.toNat, h⟩
          else
            s.mem.read (assembleAddr s.frontSel.other p (s.cfg.pos ⟨s.cCh.toNat, h⟩)) &&&
              ~~~s.cfg.mask ⟨s.cCh.toNat, h⟩) ∧
        ∀ a : BufAddr, (∀ p < 8, a ≠ assembleAddr s.frontSel.other p (s.cfg.pos ⟨s.cCh.toNat, h⟩)) →
          t.mem.read a = s.mem.read a) ∧
      (192 ≤ s.cCh.toNat → ∀ a : BufAddr, t.mem.read a = s.mem.read a)

/-- `C_INC` and `C_CLR` where they are enabled: the current counter is incremented, the valid flag is cleared (R192,
R193). That 255, which no run reaches, becomes 0 is the model's reading of R11's truncation (log entry 16, DEDUCED). -/
def Obligations.ConsumerCountAndClear : Prop :=
  ∀ s : State, s.cEn = true →
    (s.cPhase = .inc → exec .cInc s = .next { s with rxCount := s.rxCount + 1, cPhase := .clr }) ∧
    (s.cPhase = .clr → exec .cClr s = .next { s with rxValid := false, cPhase := .test })

/-- A data byte from an idle state: its capture, its assembly into the back buffer as the channel the counter names, the
counter one higher, and the state idle again, everything else as before (R236, R102, R190 to R193). -/
def Obligations.DataByteIsAssembled : Prop :=
  ∀ (s : State) (v : Byte) (h : s.rxCount.toNat < 192), Idle s →
    byteMacro v s = dataByteSteps v ∧
      runSteps (dataByteSteps v) s = .next { s with
        mem := assembleMem s.cfg s.frontSel.other v ⟨s.rxCount.toNat, h⟩ s.mem, rxCount := s.rxCount + 1,
        rxByte := v, serData := v, cVal := v, cCh := s.rxCount }

/-- Lazy swap: with a full frame assembled, the next captured byte first swaps the buffers and is then assembled as channel
0 into the buffer that was front before (R194). -/
def Obligations.NextByteSwapsFullFrame : Prop :=
  ∀ (s : State) (v : Byte), Idle s → s.rxCount = 192 →
    runSteps (byteHead v ++ [.cTest] ++ [.cTest, .cAsm, .cInc, .cClr] ++ byteTail) s = .next { s with
      frontSel := s.frontSel.other, mem := assembleMem s.cfg s.frontSel v 0 s.mem, rxCount := 1, rxByte := v,
      serData := v, cVal := v, cCh := 0 }

/-- A whole frame sent by the upstream protocol is shown once the first byte of the next frame has arrived: after 192 data
bytes in channel order and the capture and test of one more, the front buffer decodes to the image (R236, R194, R168). -/
def Obligations.ReceivedFrameIsShown : Prop :=
  ∀ (s : State) (img : Fin 192 → Byte) (next : Byte), Idle s → s.rxCount = 0 → s.mem.wf →
    ∃ t : State,
      runSteps ((List.finRange 192).flatMap (fun c => dataByteSteps (img c)) ++ byteHead next ++ [.cTest]) s = .next t ∧
      t.frontSel = s.frontSel.other ∧
      ∀ c : Fin 192, decodeChannel t.cfg t.mem t.frontSel c = (img c).toNat

/-- A receive clear between `C_TEST` and `C_INC`, before or after `C_ASM`: the snapshot's channel is still written, and the
counter is left at 1 (R197). -/
def Obligations.ClearDuringCallLeavesOne : Prop :=
  ∀ (s : State) (h : s.rxCount.toNat < 192), s.gie = true → s.serIe = true → s.serFlag = true → s.cEn = true →
    s.cPhase = .test → s.rxValid = true →
      (∃ t : State, runSteps [.cTest, .svcSerial, .cAsm, .cInc] s = .next t ∧ t.rxCount = 1 ∧
        t.mem = assembleMem s.cfg s.frontSel.other s.rxByte ⟨s.rxCount.toNat, h⟩ s.mem) ∧
      ∃ t : State, runSteps [.cTest, .cAsm, .svcSerial, .cInc] s = .next t ∧ t.rxCount = 1 ∧
        t.mem = assembleMem s.cfg s.frontSel.other s.rxByte ⟨s.rxCount.toNat, h⟩ s.mem

/-! ## Hazards (R313, R319) -/

/-- Hazard H4: with a timer request pending, a reset and a restart do not withdraw it; the pending service runs with no
tick since the reset, reads step 0 and transmits plane 1 (R313). -/
def Obligations.PendingRequestSurvivesReset : Prop :=
  ∀ s : State, s.gie = true → s.bootBam = true → s.tmrPend = true →
    ∃ t : State, runSteps [.bamReset, .bamStart, .svcTimer] s = .next t ∧ t.bamStep = 1 ∧ t.tmrRun = true ∧
      t.tmrCnt = s.cfg.period 0 ∧ t.tmrReload = s.cfg.period 0 ∧ t.tmrPend = false ∧
      t.busTrace = s.busTrace ++ timerServiceRecords s.mem s.frontSel 1

/-- Hazard H8: a latch pulse shorter than the service latency is one request, serviced as a falling edge; the byte is not
captured, its completion stays, and the next rising edge captures it (R319). -/
def Obligations.ShortPulseLosesItsByte : Prop :=
  ∀ s : State, s.gie = true → s.latIe = true → s.latchIn = false →
    runSteps [.latchSet true, .latchSet false, .svcLatch] s = .next { s with
      latPend := false, serIe := false, cmdState := .awaitFirst } ∧
    (s.serFlag = true →
      runSteps [.latchSet true, .latchSet false, .svcLatch, .latchSet true, .svcLatch] s = .next { s with
        latchIn := true, latPend := false, serIe := true, cmdState := .awaitFirst, serFlag := false,
        rxByte := s.serData, rxValid := true })

/-! ## Which steps are taken (R103, R255) -/

/-- Dispatch: a service step can be taken exactly when its condition of R255 holds, and is refused by its name otherwise. -/
def Obligations.ServiceDispatch : Prop :=
  ∀ s : State,
    ((∃ t : State, exec .svcTimer s = .next t) ↔ s.gie = true ∧ s.tmrPend = true) ∧
    ((∃ t : State, exec .svcLatch s = .next t) ↔ s.gie = true ∧ s.latIe = true ∧ s.latPend = true) ∧
    ((∃ t : State, exec .svcSerial s = .next t) ↔ s.gie = true ∧ s.serIe = true ∧ s.serFlag = true) ∧
    ∀ svc : Service, (¬ ∃ t : State, exec svc.instr s = .next t) → exec svc.instr s = .refused (.serviceNotEnabled svc)

/-- A step is taken exactly when it is enabled: a host step always, `TICK` while the timer runs, a service where the
dispatcher admits it, a consumer step where `c_phase` names it; no step faults (R103, R250). -/
def Obligations.EnabledStepsAreTaken : Prop :=
  (∀ (i : Instr) (s : State), (∃ t : State, exec i s = .next t) ↔ enabled i s = true) ∧
  (∀ (i : Instr) (s : State), i.agent = .host → enabled i s = true) ∧
  (∀ s : State, (enabled .tick s = true ↔ s.tmrRun = true) ∧
    (s.tmrRun = false → exec .tick s = .refused .timerStopped)) ∧
  ∀ (s : State) (i : Instr) (p : Phase),
    (i, p) ∈ [(Instr.cTest, Phase.test), (.cAsm, .asm), (.cInc, .inc), (.cClr, .clr)] →
      (enabled i s = true ↔ s.cEn = true ∧ s.cPhase = p) ∧
      (¬ (s.cEn = true ∧ s.cPhase = p) → exec i s = .refused (.consumerNotEnabled p))

/-- With a fixed service order, the first enabled service in that order runs before any other step; with no service
enabled the schedule's step runs (R256). That a service so run takes no word off the schedule, and runs also where the
schedule is over or INVALID, is the model's choice (log entry 12, DESIGN CHOICE). -/
def Obligations.OrderedServicesRunFirst : Prop :=
  ∀ (order : List Service) (s : State), ServiceOrder order →
    (∀ svc : Service, s.serviceEnabled svc = true →
      (∀ other : Service, order.idxOf other < order.idxOf svc → s.serviceEnabled other = false) →
        stepOrdered order s = exec svc.instr s ∧ ∃ t : State, stepOrdered order s = .next t) ∧
    ((∀ svc : Service, s.serviceEnabled svc = false) → stepOrdered order s = step s)

/-! ## Who writes what (R23 to R54, R64, R68) -/

/-- Each register, line and bookkeeping bit changes only in the steps its rule names (R23 to R44, R47, R54). -/
def Obligations.RegisterWriters : Prop :=
  ∀ (i : Instr) (s t : State), exec i s = .next t →
    (t.bamStep ≠ s.bamStep → i.mnemonic ∈ [.bamInit, .bamReset, .svcTimer, .svcSerial]) ∧
    (t.frontSel ≠ s.frontSel → i.mnemonic ∈ [.bamInit, .cTest]) ∧
    (t.tmrRun ≠ s.tmrRun → i.mnemonic ∈ [.bamInit, .bamStart, .bamReset, .svcTimer, .svcSerial]) ∧
    (t.tmrCnt ≠ s.tmrCnt → i.mnemonic ∈ [.bamInit, .bamReset, .svcTimer, .svcSerial, .tick]) ∧
    (t.tmrReload ≠ s.tmrReload → i.mnemonic ∈ [.bamInit, .bamReset, .svcTimer, .svcSerial]) ∧
    (t.gie ≠ s.gie → i.mnemonic = .gieSet) ∧ (t.latchIn ≠ s.latchIn → i.mnemonic = .latchSet) ∧
    (t.latIe ≠ s.latIe → i.mnemonic ∈ [.rxInit, .rxStart]) ∧ (t.serData ≠ s.serData → i.mnemonic = .serByte) ∧
    (t.serIe ≠ s.serIe → i.mnemonic ∈ [.svcLatch, .rxInit]) ∧
    (t.rxByte ≠ s.rxByte → i.mnemonic ∈ [.svcLatch, .svcSerial, .rxInit]) ∧
    (t.rxCount ≠ s.rxCount → i.mnemonic ∈ [.cInc, .cTest, .svcSerial, .rxInit]) ∧
    (t.cEn ≠ s.cEn → i.mnemonic = .loopStart) ∧
    (t.cPhase ≠ s.cPhase → i.mnemonic ∈ [.cTest, .cAsm, .cInc, .cClr]) ∧
    (t.cVal ≠ s.cVal → i.mnemonic = .cTest) ∧ (t.cCh ≠ s.cCh → i.mnemonic = .cTest) ∧
    (t.lines ≠ s.lines → i.mnemonic ∈ [.bamInit, .svcTimer]) ∧
    (t.busTrace ≠ s.busTrace → i.mnemonic ∈ [.bamInit, .svcTimer]) ∧
    (t.chips ≠ s.chips → i.mnemonic ∈ [.bamInit, .svcTimer]) ∧
    (t.bootRx ≠ s.bootRx → i.mnemonic = .rxInit) ∧ (t.bootBam ≠ s.bootBam → i.mnemonic = .bamInit) ∧
    (t.refused ≠ s.refused →
      i.mnemonic ∈ [.rxInit, .rxStart, .bamInit, .gieSet, .bamStart, .loopStart, .bamReset]) ∧
    t.script = s.script

/-- The status flags: which step sets each and which clears it (R48). -/
def Obligations.FlagSettersAndClearers : Prop :=
  ∀ (i : Instr) (s t : State), exec i s = .next t →
    (s.tmrPend = false → t.tmrPend = true → i = .tick ∧ s.tmrCnt ≤ 1) ∧
    (s.tmrPend = true → t.tmrPend = false → i = .svcTimer ∨ i = .bamInit) ∧
    (s.latPend = false → t.latPend = true → ∃ l : Bool, i = .latchSet l ∧ l ≠ s.latchIn) ∧
    (s.latPend = true → t.latPend = false → i = .svcLatch ∨ i = .rxInit) ∧
    (s.serFlag = false → t.serFlag = true → ∃ v : Byte, i = .serByte v) ∧
    (s.serFlag = true → t.serFlag = false → (i = .svcLatch ∧ s.latchIn = true) ∨ i = .svcSerial) ∧
    (s.rxValid = false → t.rxValid = true → i = .svcLatch ∧ s.latchIn = true ∧ s.serFlag = true) ∧
    (s.rxValid = true → t.rxValid = false → i = .cClr ∨ i = .svcSerial ∨ i = .rxInit) ∧
    (s.cmdState = .awaitFirst → t.cmdState = .awaitSecond → i = .svcSerial) ∧
    (s.cmdState = .awaitSecond → t.cmdState = .awaitFirst → (i = .svcLatch ∧ s.latchIn = false) ∨ i = .rxInit)

/-- What no step takes back: the enables that are never cleared, the boot bookkeeping, the refusal mark and the records of
the trace (R29, R32, R41, R46, R47, R54). -/
def Obligations.NeverTakenBack : Prop :=
  ∀ s t : State, step s = .next t →
    (s.gie = true → t.gie = true) ∧ (s.latIe = true → t.latIe = true) ∧ (s.cEn = true → t.cEn = true) ∧
    (s.bootRx = true → t.bootRx = true) ∧ (s.bootBam = true → t.bootBam = true) ∧
    (s.refused = true → t.refused = true) ∧ s.busTrace <+: t.busTrace

/-- No step writes the channel map, the step periods or the step offsets, nor any other parameter (R68); the offset table is
`32 * s`, the spec's decision D16 (R67). That the configuration is a field of the state is the model's choice (log entry 1,
DESIGN CHOICE). -/
def Obligations.ConfigurationIsConstant : Prop :=
  (∀ s t : State, step s = .next t → t.cfg = s.cfg) ∧ ∀ p : BitVec 3, stepOffset p = 32 * p.toNat

/-- BUF changes only in `BAM_INIT` and `C_ASM`, and in `C_ASM` only at the assembled channel's position of each plane of
the back buffer: after `BAM_INIT` no step writes the front buffer (R64). -/
def Obligations.BufferWriters : Prop :=
  ∀ (i : Instr) (s t : State) (a : BufAddr), exec i s = .next t → t.mem.read a ≠ s.mem.read a →
    i = .bamInit ∨
      (i = .cAsm ∧ ∃ h : s.cCh.toNat < 192, ∃ p < 8,
        a = assembleAddr s.frontSel.other p (s.cfg.pos ⟨s.cCh.toNat, h⟩) ∧ addrBuffer a = s.frontSel.other)

/-! ## Invariants (R52, R62, R134, R150, R195) -/

/-- The invariants hold at power-on reset. -/
def Obligations.InvariantsAtReset : Prop := Inv State.reset ∧ ObserverAgrees State.reset

/-- Every step keeps the invariant: BUF canonical with its idle lanes 0, the counter at most 192 and below it between
`C_TEST` and `C_INC`, the snapshot below 192, the timer's registers within the periods, the enables only after their
inits, the lines at rest (R52, R62, R134, R195). -/
def Obligations.StepKeepsInvariant : Prop :=
  ∀ s t : State, Inv s → step s = .next t → Inv t

/-- Every step keeps the agreement of lines and driver chips with the trace since power-on (R46, R150). -/
def Obligations.StepKeepsObserver : Prop :=
  ∀ s t : State, ObserverAgrees s → step s = .next t → ObserverAgrees t

/-! ## What does not matter (R51, R18) -/

/-- Outside `c_phase = ASM` the snapshot registers do not matter: with any other values in them every step does the same to
everything else, and a fresh snapshot is the same (R51, U8). -/
def Obligations.StaleSnapshotIsUnread : Prop :=
  ∀ (i : Instr) (s t : State) (x y : Byte), s.cPhase ≠ .asm → exec i s = .next t →
    ∃ x' y' : Byte, exec i { s with cVal := x, cCh := y } = .next { t with cVal := x', cCh := y' } ∧
      (t.cPhase = .asm → x' = t.cVal ∧ y' = t.cCh)

/-- The driver chips only observe: whatever they hold, every step does the same to the block (R18, R150). -/
def Obligations.ChipsOnlyObserve : Prop :=
  ∀ (i : Instr) (s t : State) (c : Chips), exec i s = .next t →
    ∃ c' : Chips, exec i { s with chips := c } = .next { t with chips := c' }

/-! ## The timing layer (R310, R317) -/

/-- The waits a timer service records add up to `D_TX` (R310). -/
def Obligations.TimerServiceDuration : Prop :=
  ∀ s t : State, exec .svcTimer s = .next t →
    ∃ rs : List Record, t.busTrace = s.busTrace ++ rs ∧
      waitTime s.cfg rs = 2 * s.cfg.raw.tLat + 32 * (s.cfg.raw.tLo + s.cfg.raw.tHi)

/-- A run can be laid out on the clock exactly when laying every step out as early as it can be succeeds (R317). -/
def Obligations.EarliestLayoutDecides : Prop :=
  ∀ (hz : Rat) (run : List Timed), TimedFeasible hz run ↔ feasibleFrom hz 0 0 run = true

/-! ## The host's duties (R235) -/

/-- The upstream sender's duties as the model reads them (R235 to R237, R93; log entry 15, DEDUCED), from an idle state: a
data byte as R236 sends it, alone or followed by either command of R237, keeps every duty. H-byte is broken by a transfer
between the rising and the falling edge that is not meant as a command, and by an edge before the byte it should capture;
not by an edge that should capture nothing. H-pace is broken by a second data byte's edge before the consumer has taken
the first. H-shape is broken by a command with the latch deasserted, by one that comes before the service of the one
before, and by a third. -/
def Obligations.UpstreamDuties : Prop :=
  ∀ (s : State) (v x y z : Byte), Idle s → s.rxCount.toNat < 192 →
    let taken : List Planned := planned .dataByte (byteHead v ++ [.cTest, .cAsm, .cInc, .cClr])
    (keepsDuties (planned .dataByte (dataByteSteps v)) s = true ∧
      keepsDuties (taken ++ planned .command (resetBufferSteps x)) s = true ∧
      keepsDuties (taken ++ planned .command (resyncSteps x y)) s = true) ∧
    (∀ m : Purpose, dutyByte (planned .dataByte (byteHead v) ++ [⟨.serByte x, m⟩]) s = (m == .command)) ∧
    (∀ m : Purpose, dutyByte [⟨.latchSet true, m⟩] s = (m != .dataByte)) ∧
    dutyPace (planned .dataByte (byteHead v ++ byteTail ++ [.serByte x, .latchSet true])) s = false ∧
    dutyShape (planned .command [.serByte x]) s = false ∧
    dutyShape (taken ++ planned .command [.serByte x, .serByte y]) s = false ∧
    dutyShape (taken ++ planned .command [.serByte x, .svcSerial, .serByte y, .svcSerial, .serByte z]) s = false

/-- H-boot and H-latch as the model reads them (R235, R300; log entry 15, DEDUCED), from power-on with any configuration,
schedule and chips: the boot order keeps them, with `RX_START` after `RX_INIT` and `BAM_RESET` after `BAM_INIT` put in too;
`RX_START`, `BAM_RESET` or a later entry point of the order called first breaks H-boot, and so does `RX_INIT` after
`GIE_SET`. -/
def Obligations.BootDuties : Prop :=
  ∀ (cfg : Config) (script : List EventWord) (chips : Chips),
    let s : State := { State.reset with cfg := cfg, script := script, chips := chips }
    dutyLatch s = true ∧ dutyBoot bootOrder s = true ∧
    dutyBoot [.rxInit, .rxStart, .bamInit, .rxStart, .gieSet, .bamReset, .bamStart, .loopStart] s = true ∧
    dutyBoot [.rxStart] s = false ∧ dutyBoot [.bamReset] s = false ∧
    (∀ i ∈ bootOrder.tail, dutyBoot [i] s = false) ∧
    dutyBoot [.rxInit, .bamInit, .gieSet, .rxInit] s = false
end

