-- ==== Sys2Proof/Laws/Config.lean ====
section
/-! SUPPORT. What a well-formed configuration gives (R9), in the form the meanings use it. -/

namespace Sys2Proof

theorem Config.period_eq (c : Config) (s : BitVec 3) : c.period s = c.raw.p0 * 2 ^ s.toNat :=
  c.wf.2.2.2.2.1 ⟨s.toNat, by have := s.isLt; omega⟩

theorem Config.one_le_p0 (c : Config) : 1 ≤ c.raw.p0 := c.wf.2.2.2.2.2.1

theorem Config.one_le_period (c : Config) (s : BitVec 3) : 1 ≤ c.period s := by
  rw [c.period_eq]; exact Nat.mul_pos c.one_le_p0 (Nat.two_pow_pos _)

theorem Config.period_le (c : Config) (s : BitVec 3) : c.period s ≤ c.period 7 := by
  rw [c.period_eq, c.period_eq]
  exact Nat.mul_le_mul_left _ (Nat.pow_le_pow_right (by decide) (by have := s.isLt; simpa using Nat.le_of_lt_succ this))

theorem Config.period_lt (c : Config) (s : BitVec 3) : c.period s < 2 ^ c.raw.tmrW :=
  Nat.lt_of_le_of_lt (c.period_le s) c.wf.2.2.2.2.2.2

theorem Config.pos_lt (c : Config) (ch : Fin 192) : c.pos ch < 32 := c.wf.2.1 ch

theorem Config.mask_eq (c : Config) (ch : Fin 192) : ∃ k : Fin 6, c.mask ch = (1 : Byte) <<< c.chainBit k :=
  c.wf.2.2.1 ch

theorem Config.map_injective (c : Config) {a b : Fin 192} (hp : c.pos a = c.pos b) (hm : c.mask a = c.mask b) : a = b :=
  c.wf.2.2.2.1 a b hp hm

theorem Config.chainBit_lt (c : Config) (k : Fin 6) : c.chainBit k < 8 := c.wf.1.1 k

theorem Config.chainBit_injective (c : Config) {j k : Fin 6} (h : c.chainBit j = c.chainBit k) : j = k := by
  rcases Nat.lt_trichotomy j.val k.val with hlt | heq | hgt
  · exact absurd h (Nat.ne_of_lt (c.wf.1.2 j k hlt))
  · exact Fin.ext heq
  · exact absurd h.symm (Nat.ne_of_lt (c.wf.1.2 k j hgt))

end Sys2Proof
end

