-- ==== Sys2Proof/Laws/Bus.lean ====
section
/-! SUPPORT. What the lines and the driver chips do under the records an operation emits. -/

namespace Sys2Proof.Machine

@[simp] theorem observe_nil (cfg : Config) (b : Lines × Chips) : observe cfg b [] = b := rfl

@[simp] theorem observe_cons (cfg : Config) (b : Lines × Chips) (r : Record) (rs : List Record) :
    observe cfg b (r :: rs) = observe cfg (busAfter cfg b r) rs := rfl

/-- A trace in two parts is observed part by part. -/
theorem observe_append (cfg : Config) (b : Lines × Chips) (l r : List Record) :
    observe cfg b (l ++ r) = observe cfg (observe cfg b l) r := List.foldl_append ..

/-- Emitting two lists of records in turn is emitting both at once. -/
theorem State.emit_emit (s : State) (l r : List Record) : (s.emit l).emit r = s.emit (l ++ r) := by
  simp only [State.emit, observe_append, List.append_assoc]

/-- One clocked byte, the clock low before it: the data lines hold the byte, the clock is low again, every chain has
shifted by one stage (R131, R151). -/
theorem observe_clockByte (cfg : Config) (l : Lines) (c : Chips) (b : Byte) (h : l.clk = false) :
    observe cfg (l, c) (clockByte b) = ({ l with data := b, clk := false }, c.shift cfg b) := by
  simp [clockByte, busAfter, chipsAfter, Lines.after, h]

/-- Clocked bytes in turn: the data lines hold the last one, the chains have shifted once for each (R136). -/
theorem observe_clockBytes (cfg : Config) (l : Lines) (c : Chips) (bs : List Byte) (h : l.clk = false) :
    observe cfg (l, c) (bs.flatMap clockByte) =
      ({ l with data := bs.getLastD l.data }, bs.foldl (fun c b => c.shift cfg b) c) := by
  induction bs generalizing l c with
  | nil => rfl
  | cons b bs ih =>
    rw [List.flatMap_cons, observe_append, observe_clockByte cfg l c b h, ih _ _ rfl]
    cases bs <;> simp [h, List.getLast?_cons]

@[simp] theorem shift_out (c : Chips) (cfg : Config) (b : Byte) : (c.shift cfg b).out = c.out := rfl

theorem shift_sr (c : Chips) (cfg : Config) (b : Byte) (k : Fin 6) :
    (c.shift cfg b).sr[k] = c.sr[k].shiftConcat (b.getLsbD (cfg.chainBit k)) := by
  simp [Chips.shift]

theorem shifts_out (cfg : Config) (bs : List Byte) (c : Chips) :
    (bs.foldl (fun c b => c.shift cfg b) c).out = c.out := by
  induction bs generalizing c with
  | nil => rfl
  | cons b bs ih => exact ih _

@[simp] theorem planeBytesOf_length (m : Memory) (f : Buffer) (n : BitVec 3) : (planeBytesOf m f n).length = 32 := by
  simp [planeBytesOf, planeBytes]

/-- A value below the timer's range is held whole: in particular every period (R9 item 4). -/
theorem timerValue_period (cfg : Config) (s : BitVec 3) : timerValue cfg (cfg.period s) = cfg.period s :=
  Nat.mod_eq_of_lt (cfg.period_lt s)

end Sys2Proof.Machine
end

