-- ==== Sys2Proof/Laws/Bam.lean ====
section
/-! SUPPORT. What `ChipClear`, `Transmit`, `BAM_INIT` and `SVC_TIMER` do, each said once: the chips and lines they leave,
and the whole state. -/

namespace Sys2Proof.Machine

/-- Every stage after shifting some bytes in: the last ones, the latest at stage 0, then what was there (R151). -/
theorem shifts_sr (cfg : Config) (k : Fin 6) (bs : List Byte) (c : Chips) (i : Nat) (hi : i < 32) :
    ((bs.foldl (fun c b => c.shift cfg b) c).sr[k]).getLsbD i =
      if h : i < bs.length then (bs[bs.length - 1 - i]).getLsbD (cfg.chainBit k)
      else c.sr[k].getLsbD (i - bs.length) := by
  induction bs generalizing c with
  | nil => simp
  | cons b bs ih =>
    rw [List.foldl_cons, ih]
    by_cases h : i < bs.length
    · have e : (b :: bs).length - 1 - i = (bs.length - 1 - i) + 1 := by simp; omega
      rw [dif_pos h, dif_pos (by simp; omega)]
      simp only [e, List.getElem_cons_succ]
    · rw [dif_neg h, shift_sr]
      by_cases h2 : i = bs.length
      · subst h2
        simp [BitVec.shiftConcat]
      · have e : i - bs.length = (i - bs.length - 1) + 1 := by omega
        have e' : i - (bs.length + 1) = i - bs.length - 1 := by omega
        have hl : i - bs.length - 1 + 1 < 32 := by omega
        rw [dif_neg (by simp; omega), e]
        simp [BitVec.shiftConcat, e', hl]

/-- `ChipClear` from idle lines: every shift register and output latch is 0 (R122, R154). -/
theorem observe_chipClear (cfg : Config) (l : Lines) (c : Chips) (h1 : l.clk = false) (h2 : l.lat = false) :
    observe cfg (l, c) chipClearRecords = ({ l with data := 0, clk := false, lat := false }, darkChips) := by
  have hsr : ((List.replicate 32 (0 : Byte)).foldl (fun c b => c.shift cfg b) c).sr = darkChips.sr := by
    apply Vector.ext
    intro k hk
    apply BitVec.eq_of_getLsbD_eq
    intro i hi
    have := shifts_sr cfg ⟨k, hk⟩ (List.replicate 32 (0 : Byte)) c i hi
    rw [dif_pos (by simpa using hi)] at this
    simp only [List.getElem_replicate] at this
    simpa [darkChips] using this
  have hz : (List.replicate 32 (0 : Byte)).foldl (fun c b => c.shift cfg b) c = { c with sr := darkChips.sr } := by
    have ho := shifts_out cfg (List.replicate 32 (0 : Byte)) c
    generalize (List.replicate 32 (0 : Byte)).foldl (fun c b => c.shift cfg b) c = d at hsr ho ⊢
    cases d
    simp only at hsr ho
    simp [hsr, ho]
  have hb : ((List.range chainLen).flatMap fun _ => clockByte 0x00) = (List.replicate 32 0x00).flatMap clockByte := rfl
  simp only [chipClearRecords, hb, observe_append]
  rw [show observe cfg (l, c) [Record.wait .tClr] = (l, c) from rfl, observe_clockBytes _ _ _ _ h1, hz]
  simp [busAfter, chipsAfter, Lines.after, h2, h1, Chips.transfer, darkChips, List.getLastD]

/-- `Transmit`, the clock low before it: the latch is deasserted, the data lines hold the plane's last byte, the plane is in
the shift registers (R131, R134). -/
theorem observe_transmit (cfg : Config) (l : Lines) (c : Chips) (m : Memory) (f : Buffer) (n : BitVec 3)
    (h : l.clk = false) :
    observe cfg (l, c) (transmitRecords m f n) =
      ({ l with data := m.read (bufAddr f (32 * n.toNat + 31)), clk := false, lat := false },
        (planeBytesOf m f n).foldl (fun c b => c.shift cfg b) c) := by
  have e : observe cfg (l, c) [Record.lat false, Record.wait .tLat] = ({ l with lat := false }, c) := by
    simp [busAfter, chipsAfter, Lines.after]
  have hd : (planeBytesOf m f n).getLastD l.data = m.read (bufAddr f (32 * n.toNat + 31)) := by
    simp [planeBytesOf, planeBytes, List.range_succ, List.getLastD_eq_getLast?, stepOffset]
  rw [transmitRecords, observe_append, e, observe_clockBytes _ _ _ _ (by exact h)]
  simp only [hd, ← h]

/-- The lines and chips after a timer service from idle lines: the old contents of the shift registers are on the outputs,
the new plane is in the shift registers (R134, R138). -/
theorem observe_timerService (cfg : Config) (l : Lines) (c : Chips) (m : Memory) (f : Buffer) (n : BitVec 3)
    (hlat : l.lat = false) (hclk : l.clk = false) :
    observe cfg (l, c) (timerServiceRecords m f n) =
      ({ l with data := m.read (bufAddr f (32 * n.toNat + 31)), clk := false, lat := false },
        (planeBytesOf m f n).foldl (fun c b => c.shift cfg b) c.transfer) := by
  have e : observe cfg (l, c) [Record.lat true, Record.wait .tLat] = ({ l with lat := true }, c.transfer) := by
    simp [busAfter, chipsAfter, Lines.after, hlat]
  rw [timerServiceRecords, observe_append, e, observe_transmit _ _ _ _ _ _ (by exact hclk)]

/-- The levels of the lines do not depend on the chips. -/
theorem observe_lines (cfg : Config) (c : Chips) (rs : List Record) (l : Lines) :
    (observe cfg (l, c) rs).1 = rs.foldl Lines.after l := by
  induction rs generalizing l c with
  | nil => rfl
  | cons r rs ih => exact ih _ _

/-- What the body of `BAM_INIT` leaves (R121). -/
theorem bamInit_eq (s : State) : s.bamInit = { s with
    mem := s.mem.zeroed, frontSel := .a, bamStep := 0, tmrRun := false, tmrPend := false,
    tmrReload := s.cfg.period 0, tmrCnt := s.cfg.period 0, lines := ⟨0x00, false, false, false⟩,
    busTrace := s.busTrace ++ bamInitRecords, chips := darkChips, bootBam := true } := by
  have e : observe s.cfg (s.lines, s.chips) [Record.blank true, Record.lat false, Record.clk false, Record.data 0x00] =
      (⟨0x00, false, false, true⟩, s.chips) := by
    simp [busAfter, chipsAfter, Lines.after]
  simp only [State.bamInit, State.chipClear, State.emit, State.loadTimer, timerValue_period, e]
  rw [observe_chipClear _ _ _ rfl rfl]
  simp [busAfter, chipsAfter, Lines.after, bamInitRecords]

/-- What the body of `SVC_TIMER` leaves, lines and chips aside (R127). -/
theorem timerService_eq (s : State) : s.timerService = { s with
    tmrPend := false, tmrRun := true, tmrReload := s.cfg.period s.bamStep, tmrCnt := s.cfg.period s.bamStep,
    bamStep := s.bamStep + 1, lines := s.timerService.lines, chips := s.timerService.chips,
    busTrace := s.busTrace ++ timerServiceRecords s.mem s.frontSel (s.bamStep + 1) } := by
  simp [State.timerService, State.emit, State.latchAssert, State.enterService, State.clearRequest, State.loadTimer,
    State.transmit, State.leaveService, timerServiceRecords, timerValue_period]

/-- The lines and chips after the body of `SVC_TIMER` (R127). -/
theorem timerService_bus (s : State) : (s.timerService.lines, s.timerService.chips) =
    observe s.cfg (s.lines, s.chips) (timerServiceRecords s.mem s.frontSel (s.bamStep + 1)) := by
  simp [State.timerService, State.emit, State.latchAssert, State.enterService, State.clearRequest, State.loadTimer,
    State.transmit, State.leaveService, timerServiceRecords]

end Sys2Proof.Machine
end

