-- ==== Sys2Proof/Laws/Memory.lean ====
section
/-! SUPPORT. The laws of BUF: what a read gives after a write, and that every memory operation keeps the canonical form. -/

namespace Sys2Proof.Machine

@[simp] theorem Memory.readAt_nil (a : Nat) : Memory.readAt [] a = Memory.unlisted := rfl

@[simp] theorem Memory.read_nil (a : BufAddr) : Memory.read [] a = 0 := rfl

/-- A key below every listed one reads as unlisted. -/
theorem Memory.readAt_of_lt {m : Memory} {a : Nat} (h : ∀ e ∈ m, a < e.1) : m.readAt a = Memory.unlisted := by
  induction m with
  | nil => rfl
  | cons e m ih =>
    have he := h e (by simp)
    simp only [Memory.readAt, if_neg (Nat.ne_of_gt he)]
    exact ih fun x hx => h x (by simp [hx])

/-- A write leaves every other key alone, whatever the list. -/
theorem Memory.readAt_writeAt_ne {m : Memory} {a b : Nat} {v : Byte} (h : a ≠ b) :
    (m.writeAt a v).readAt b = m.readAt b := by
  induction m with
  | nil => by_cases hv : v = Memory.unlisted <;> simp [Memory.writeAt, Memory.readAt, hv, h]
  | cons e m ih =>
    obtain ⟨k, w⟩ := e
    simp only [Memory.writeAt]
    split
    · split <;> simp [Memory.readAt, h]
    · split
      · next hk => subst hk; split <;> simp [Memory.readAt, h]
      · simp only [Memory.readAt, ih]

/-- In a canonical list a write is read back. -/
theorem Memory.readAt_writeAt_self {m : Memory} {a : Nat} {v : Byte} (hm : (m.map Prod.fst).Pairwise (· < ·)) :
    (m.writeAt a v).readAt a = v := by
  induction m with
  | nil => by_cases hv : v = Memory.unlisted <;> simp [Memory.writeAt, Memory.readAt, hv]
  | cons e m ih =>
    obtain ⟨k, w⟩ := e
    rw [List.map_cons, List.pairwise_cons] at hm
    have above : ∀ e ∈ m, k < e.1 := fun e he => hm.1 e.1 (List.mem_map_of_mem he)
    simp only [Memory.writeAt]
    split
    · next hlt =>
      split
      · next hv =>
        subst hv
        rw [Memory.readAt, if_neg (by omega)]
        exact Memory.readAt_of_lt fun e he => Nat.lt_trans hlt (above e he)
      · simp [Memory.readAt]
    · split
      · next hk =>
        subst hk
        split
        · next hv => subst hv; exact Memory.readAt_of_lt above
        · simp [Memory.readAt]
      · next hge hne =>
        rw [Memory.readAt, if_neg (Ne.symm hne)]
        exact ih hm.2

theorem Memory.mem_writeAt {m : Memory} {a : Nat} {v : Byte} {e : Host.Cell} (h : e ∈ m.writeAt a v) :
    e ∈ m ∨ (e = (a, v) ∧ v ≠ Memory.unlisted) := by
  induction m with
  | nil => by_cases hv : v = Memory.unlisted <;> simp_all [Memory.writeAt]
  | cons x m ih =>
    obtain ⟨k, w⟩ := x
    simp only [Memory.writeAt] at h
    split at h
    · split at h
      · exact .inl h
      · next hv => rcases List.mem_cons.1 h with rfl | h; exacts [.inr ⟨rfl, hv⟩, .inl h]
    · split at h
      · split at h
        · exact .inl (List.mem_cons_of_mem _ h)
        · next hv => rcases List.mem_cons.1 h with rfl | h; exacts [.inr ⟨rfl, hv⟩, .inl (List.mem_cons_of_mem _ h)]
      · rcases List.mem_cons.1 h with rfl | h
        · exact .inl (by simp)
        · rcases ih h with h | h; exacts [.inl (List.mem_cons_of_mem _ h), .inr h]

theorem Memory.writeAt_sorted {m : Memory} {a : Nat} {v : Byte} (hm : (m.map Prod.fst).Pairwise (· < ·)) :
    ((m.writeAt a v).map Prod.fst).Pairwise (· < ·) := by
  induction m with
  | nil => by_cases hv : v = Memory.unlisted <;> simp [Memory.writeAt, hv]
  | cons e m ih =>
    obtain ⟨k, w⟩ := e
    have hm' := hm
    rw [List.map_cons, List.pairwise_cons] at hm
    simp only [Memory.writeAt]
    split
    · next hlt =>
      split
      · exact hm'
      · rw [List.map_cons, List.pairwise_cons]
        refine ⟨fun x hx => ?_, hm'⟩
        rcases List.mem_cons.1 hx with rfl | hx
        · exact hlt
        · exact Nat.lt_trans hlt (hm.1 x hx)
    · split
      · next hk =>
        subst hk
        split
        · exact hm.2
        · exact hm'
      · next hge hne =>
        rw [List.map_cons, List.pairwise_cons]
        refine ⟨fun x hx => ?_, ih hm.2⟩
        obtain ⟨y, hy, rfl⟩ := List.mem_map.1 hx
        rcases Memory.mem_writeAt hy with hy | ⟨rfl, -⟩
        · exact hm.1 _ (List.mem_map_of_mem hy)
        · simp only at hne hge ⊢; omega

/-- `MemRead` after `MemWrite` at the same address. -/
theorem Memory.read_write_self {m : Memory} (hm : m.wf) (a : BufAddr) (v : Byte) : (m.write a v).read a = v :=
  Memory.readAt_writeAt_self hm.1

/-- `MemRead` after `MemWrite` at another address. -/
theorem Memory.read_write_ne (m : Memory) {a b : BufAddr} (h : a ≠ b) (v : Byte) : (m.write a v).read b = m.read b :=
  Memory.readAt_writeAt_ne fun e => h (BitVec.eq_of_toNat_eq e)

/-- What `MemRead` gives after `MemWrite`, at any address. -/
theorem Memory.read_write {m : Memory} (hm : m.wf) (a b : BufAddr) (v : Byte) :
    (m.write a v).read b = if a = b then v else m.read b := by
  by_cases h : a = b
  · subst h; rw [if_pos rfl, Memory.read_write_self hm]
  · rw [if_neg h, Memory.read_write_ne m h]

/-- `MemWrite` keeps the canonical form. -/
theorem Memory.wf_write {m : Memory} (hm : m.wf) (a : BufAddr) (v : Byte) : (m.write a v).wf := by
  refine ⟨Memory.writeAt_sorted hm.1, fun e he => ?_⟩
  rcases Memory.mem_writeAt he with he | ⟨rfl, hv⟩
  · exact hm.2 e he
  · exact ⟨a.isLt, hv⟩

/-- Writing a list of addresses and bytes in turn keeps the canonical form. -/
theorem Memory.wf_foldl {α : Type} {f : Memory → α → Memory} (hf : ∀ m x, m.wf → (f m x).wf) (l : List α) {m : Memory}
    (hm : m.wf) : (l.foldl f m).wf := by
  induction l generalizing m with
  | nil => exact hm
  | cons x l ih => exact ih (hf m x hm)

theorem Memory.wf_zeroed {m : Memory} (hm : m.wf) : m.zeroed.wf :=
  Memory.wf_foldl (fun _ _ h => Memory.wf_write h _ _) _ hm

/-- `Assemble` keeps the canonical form. -/
theorem Memory.wf_assembleMem {m : Memory} (hm : m.wf) (cfg : Config) (f : Buffer) (v : Byte) (c : Fin 192) :
    (assembleMem cfg f v c m).wf :=
  Memory.wf_foldl (fun _ _ h => Memory.wf_write h _ _) _ hm

/-- The canonical form of an all-zero BUF is the empty list. -/
theorem Memory.eq_nil_of_read_zero {m : Memory} (hm : m.wf) (h : ∀ a, m.read a = 0) : m = [] := by
  match m with
  | [] => rfl
  | (k, w) :: m =>
    obtain ⟨hk, hw⟩ := hm.2 (k, w) (by simp)
    have := h (BitVec.ofNat 9 k)
    simp only [Memory.read, BitVec.toNat_ofNat, Nat.mod_eq_of_lt hk, Memory.readAt, if_true] at this
    exact absurd this hw

end Sys2Proof.Machine
end

