-- ==== Sys2Proof/Laws/Buffer.lean ====
section
/-! SUPPORT. What `Assemble` and `Swap` do to BUF, byte by byte, and the BUF addresses they use (R61, R135, R163). -/

namespace Sys2Proof.Machine

@[simp] theorem Buffer.other_other (f : Buffer) : f.other.other = f := by cases f <;> rfl

theorem Buffer.other_ne (f : Buffer) : f.other ≠ f := by cases f <;> decide

theorem bufAddr_toNat (f : Buffer) {off : Nat} (h : off < 256) : (bufAddr f off).toNat = 256 * f.sel + off := by
  cases f <;> simp [bufAddr, Buffer.sel] <;> omega

/-- Two BUF addresses agree only in buffer and offset: there are no aliases (R61). -/
theorem bufAddr_inj {f g : Buffer} {a b : Nat} (ha : a < 256) (hb : b < 256) (h : bufAddr f a = bufAddr g b) :
    f = g ∧ a = b := by
  have := congrArg BitVec.toNat h
  rw [bufAddr_toNat f ha, bufAddr_toNat g hb] at this
  cases f <;> cases g <;> simp only [Buffer.sel] at this <;> first | exact ⟨rfl, by omega⟩ | (exfalso; omega)

theorem assembleAddr_inj {f g : Buffer} {p q a b : Nat} (hp : p < 8) (hq : q < 8) (ha : a < 32) (hb : b < 32)
    (h : assembleAddr f p a = assembleAddr g q b) : f = g ∧ p = q ∧ a = b := by
  obtain ⟨h1, h2⟩ := bufAddr_inj (by omega) (by omega) h
  exact ⟨h1, by omega, by omega⟩

theorem foldl_assemblePlane_read_ne (f : Buffer) (pos : Nat) (m v : Byte) (a : BufAddr) (l : List Nat) (buf : Memory)
    (h : ∀ p ∈ l, a ≠ assembleAddr f p pos) : (l.foldl (assemblePlane f pos m v) buf).read a = buf.read a := by
  induction l generalizing buf with
  | nil => rfl
  | cons p l ih =>
    rw [List.foldl_cons, ih _ fun q hq => h q (by simp [hq]), assemblePlane]
    exact Memory.read_write_ne _ (Ne.symm (h p (by simp))) _

/-- `Assemble` leaves every byte but the channel's 8. -/
theorem assembleMem_read_ne (cfg : Config) (f : Buffer) (v : Byte) (c : Fin 192) (buf : Memory) (a : BufAddr)
    (h : ∀ p < 8, a ≠ assembleAddr f p (cfg.pos c)) : (assembleMem cfg f v c buf).read a = buf.read a :=
  foldl_assemblePlane_read_ne _ _ _ _ _ _ _ fun p hp => h p (List.mem_range.1 hp)

theorem foldl_assemblePlane_read (f : Buffer) {pos : Nat} (hpos : pos < 32) (m v : Byte) (p : Nat) (hp : p < 8)
    (l : List Nat) (hl : ∀ q ∈ l, q < 8) (hd : l.Nodup) (hm : p ∈ l) (buf : Memory) (hb : buf.wf) :
    (l.foldl (assemblePlane f pos m v) buf).read (assembleAddr f p pos) =
      if v.getLsbD p then buf.read (assembleAddr f p pos) ||| m else buf.read (assembleAddr f p pos) &&& ~~~m := by
  induction l generalizing buf with
  | nil => cases hm
  | cons q l ih =>
    rw [List.nodup_cons] at hd
    rw [List.foldl_cons]
    by_cases hq : p = q
    · subst hq
      rw [foldl_assemblePlane_read_ne]
      · exact Memory.read_write_self hb _ _
      · intro r hr he
        obtain ⟨-, rfl, -⟩ := assembleAddr_inj hp (hl r (by simp [hr])) hpos hpos he
        exact hd.1 hr
    · have hne : assembleAddr f q pos ≠ assembleAddr f p pos := fun he =>
        hq (assembleAddr_inj (hl q (by simp)) hp hpos hpos he).2.1.symm
      have hw : (assemblePlane f pos m v buf q).wf := Memory.wf_write hb _ _
      have hr : (assemblePlane f pos m v buf q).read (assembleAddr f p pos) = buf.read (assembleAddr f p pos) :=
        Memory.read_write_ne _ hne _
      rw [ih (fun r hr => hl r (by simp [hr])) hd.2 (by simpa [hq] using hm) _ hw, hr]

/-- `Assemble` at the channel's byte of plane `p`: the channel's lane takes bit `p` of the value (R163). -/
theorem assembleMem_read (cfg : Config) (f : Buffer) (v : Byte) (c : Fin 192) {buf : Memory} (hb : buf.wf) {p : Nat}
    (hp : p < 8) :
    (assembleMem cfg f v c buf).read (assembleAddr f p (cfg.pos c)) =
      if v.getLsbD p then buf.read (assembleAddr f p (cfg.pos c)) ||| cfg.mask c
      else buf.read (assembleAddr f p (cfg.pos c)) &&& ~~~cfg.mask c :=
  foldl_assemblePlane_read f (cfg.pos_lt c) _ _ p hp _ (fun _ hq => List.mem_range.1 hq) List.nodup_range
    (List.mem_range.2 hp) buf hb

/-- Zeroing leaves the empty list, the canonical form of an all-zero BUF (R121). -/
theorem Memory.read_zeroed {m : Memory} (hm : m.wf) (a : BufAddr) : m.zeroed.read a = 0 := by
  have key : ∀ (l : List Nat) (m : Memory), m.wf → (a.toNat ∈ l ∨ m.read a = 0) →
      (l.foldl (fun m a => m.write (BitVec.ofNat 9 a) 0x00) m).read a = 0 := by
    intro l
    induction l with
    | nil => intro m _ h; simpa using h
    | cons x l ih =>
      intro m hm h
      refine ih _ (Memory.wf_write hm _ _) ?_
      rw [Memory.read_write hm]
      by_cases hx : BitVec.ofNat 9 x = a
      · exact .inr (if_pos hx)
      · rw [if_neg hx]
        rcases h with h | h
        · rcases List.mem_cons.1 h with rfl | h
          · exact absurd (BitVec.ofNat_toNat 9 a |>.trans (by simp)) hx
          · exact .inl h
        · exact .inr h
  exact key _ m hm (.inl (List.mem_range.2 a.isLt))

theorem Memory.zeroed_eq_nil {m : Memory} (hm : m.wf) : m.zeroed = [] :=
  Memory.eq_nil_of_read_zero (Memory.wf_zeroed hm) (Memory.read_zeroed hm)

end Sys2Proof.Machine
end

