-- ==== Sys2Proof/Laws/Decode.lean ====
section
/-! SUPPORT. The two fields of an event word and the word they make (R95). -/

namespace Sys2Proof

/-- The `op` of a word made of an `op` and an `arg`. -/
@[simp] theorem opOf_append (op arg : Byte) : opOf (op ++ arg) = op := by
  apply BitVec.eq_of_getLsbD_eq
  intro i hi
  have h : ((op ++ arg : BitVec (8 + 8))).getLsbD (8 + i) = op.getLsbD i := by rw [BitVec.getLsbD_append]; simp
  simpa [opOf, BitVec.getLsbD_extractLsb', hi] using h

/-- The `arg` of a word made of an `op` and an `arg`. -/
@[simp] theorem argOf_append (op arg : Byte) : argOf (op ++ arg) = arg := by
  apply BitVec.eq_of_getLsbD_eq
  intro i hi
  have h : ((op ++ arg : BitVec (8 + 8))).getLsbD i = arg.getLsbD i := by rw [BitVec.getLsbD_append]; simp [hi]
  simpa [argOf, BitVec.getLsbD_extractLsb', hi] using h

/-- A word is made of its `op` and its `arg`. -/
theorem opOf_append_argOf (w : EventWord) : opOf w ++ argOf w = w := by
  apply BitVec.eq_of_getLsbD_eq
  intro i hi
  have h : ((opOf w ++ argOf w : BitVec (8 + 8))).getLsbD i = w.getLsbD i := by
    rw [BitVec.getLsbD_append]
    by_cases h8 : i < 8
    · simp [argOf, h8]
    · have : i - 8 < 8 := by omega
      simp [opOf, h8, this, Nat.add_sub_cancel' (Nat.le_of_not_lt h8)]
  exact h

end Sys2Proof
end

