-- ==== Sys2Proof/Laws/Exec.lean ====
section
/-! SUPPORT. What each step can do, said once: if its meaning answers a next state, which state and when. Later proofs cite
these lemmas and do not unfold a meaning. -/

namespace Sys2Proof.Machine

variable {s t : State}

/-- A meaning that is enabled by a check answers its body, and nothing else. -/
theorem next_of_guard {c : Bool} {u : State} {r : Refusal} :
    ((if c then Host.Outcome.next u else .refused r : Host.Outcome State Fault Refusal) = .next t) ↔
      c = true ∧ t = u := by
  cases c <;> simp [eq_comm]

/-- A host operation answers the refused state or its body. -/
theorem next_of_choice {c : Bool} {u v : State} :
    ((if c then Host.Outcome.next u else .next v : Host.Outcome State Fault Refusal) = .next t) ↔
      (c = true ∧ t = u) ∨ (c = false ∧ t = v) := by
  cases c <;> simp [eq_comm]

theorem exec_rxInit : exec .rxInit s = .next t ↔
    (s.gie = true ∧ t = s.refuse .initWhileServicesEnabled) ∨ (s.gie = false ∧ t = s.rxInit) := next_of_choice

theorem exec_rxStart : exec .rxStart s = .next t ↔
    (s.bootRx = false ∧ t = s.refuse .startBeforeInit) ∨ (s.bootRx = true ∧ t = { s with latIe := true }) :=
  next_of_choice.trans (by simp)

theorem exec_bamInit : exec .bamInit s = .next t ↔
    (s.gie = true ∧ t = s.refuse .initWhileServicesEnabled) ∨ (s.gie = false ∧ t = s.bamInit) := next_of_choice

theorem exec_gieSet : exec .gieSet s = .next t ↔
    ((s.bootRx = false ∨ s.bootBam = false) ∧ t = s.refuse .enableBeforeInit) ∨
      ((s.bootRx = true ∧ s.bootBam = true) ∧ t = { s with gie := true }) :=
  next_of_choice.trans (by simp)

theorem exec_bamStart : exec .bamStart s = .next t ↔
    (s.bootBam = false ∧ t = s.refuse .startBeforeInit) ∨ (s.bootBam = true ∧ t = s.startBam) :=
  next_of_choice.trans (by simp)

theorem exec_loopStart : exec .loopStart s = .next t ↔
    ((s.bootRx = false ∨ s.bootBam = false) ∧ t = s.refuse .loopBeforeInit) ∨
      ((s.bootRx = true ∧ s.bootBam = true) ∧ t = { s with cEn := true }) :=
  next_of_choice.trans (by simp)

theorem exec_bamReset : exec .bamReset s = .next t ↔
    (s.bootBam = false ∧ t = s.refuse .resetBeforeInit) ∨ (s.bootBam = true ∧ t = s.resetBam) :=
  next_of_choice.trans (by simp)

theorem exec_serByte {v : Byte} : exec (.serByte v) s = .next t ↔ t = { s with serData := v, serFlag := true } :=
  ⟨fun h => (Host.Outcome.next.inj h).symm, fun h => congrArg _ h.symm⟩

theorem exec_latchSet {l : Bool} : exec (.latchSet l) s = .next t ↔
    (l ≠ s.latchIn ∧ t = { s with latchIn := l, latPend := true }) ∨ (l = s.latchIn ∧ t = s) :=
  next_of_choice.trans (by simp only [bne_iff_ne, bne_eq_false_iff_eq, State.raise])

theorem exec_tick : exec .tick s = .next t ↔ s.tmrRun = true ∧ t = s.tick := next_of_guard

theorem exec_svcTimer : exec .svcTimer s = .next t ↔ s.serviceEnabled .timer = true ∧ t = s.timerService :=
  next_of_guard

theorem exec_svcLatch : exec .svcLatch s = .next t ↔ s.serviceEnabled .latch = true ∧ t = s.latchService :=
  next_of_guard

theorem exec_svcSerial : exec .svcSerial s = .next t ↔ s.serviceEnabled .serial = true ∧ t = s.serialService :=
  next_of_guard

theorem exec_cTest : exec .cTest s = .next t ↔ s.consumerEnabled .test = true ∧ t = s.testPhase := next_of_guard

theorem exec_cAsm : exec .cAsm s = .next t ↔ s.consumerEnabled .asm = true ∧ t = s.asmPhase := next_of_guard

theorem exec_cInc : exec .cInc s = .next t ↔
    s.consumerEnabled .inc = true ∧ t = { s with rxCount := s.rxCount + 1, cPhase := .clr } := next_of_guard

theorem exec_cClr : exec .cClr s = .next t ↔
    s.consumerEnabled .clr = true ∧ t = { s with rxValid := false, cPhase := .test } := next_of_guard

/-- No step faults: the type of faults has no member (R250). -/
theorem exec_ne_fault (i : Instr) (s : State) (r : Fault) : exec i s ≠ .fault r := nomatch r

end Sys2Proof.Machine
end

