-- ==== Sys2Proof/Laws/Duties.lean ====
section
/-! SUPPORT. The checks of the host's duties, one step at a time: what a plan's check asks of its first step, and what
each kind of step makes of the sender. -/

namespace Sys2Proof.Machine

@[simp] theorem planSteps_planned (m : Purpose) (run : List Instr) : planSteps (planned m run) = run := by
  simp [planSteps, planned, Function.comp_def]

@[simp] theorem planSteps_append (p q : List Planned) : planSteps (p ++ q) = planSteps p ++ planSteps q :=
  List.map_append

@[simp] theorem planned_append (m : Purpose) (a b : List Instr) : planned m (a ++ b) = planned m a ++ planned m b :=
  List.map_append

variable {ok : Sender → Planned → State → Bool} {h : Sender} {p : Planned} {ps : List Planned} {s t : State}

/-- The check of a plan whose first step is taken. -/
theorem planAll_next (he : exec p.step s = .next t) :
    planAll ok h (p :: ps) s = (ok h p s && planAll ok (h.after p s) ps t) := by
  simp only [planAll, he]

/-- The check of a run whose first step is taken. -/
theorem runAll_next {chk : Instr → State → Bool} {i : Instr} {is : List Instr} (he : exec i s = .next t) :
    runAll chk (i :: is) s = (chk i s && runAll chk is t) := by
  simp only [runAll, he]

@[simp] theorem after_dataByte {v : Byte} : h.after ⟨.serByte v, .dataByte⟩ s = { h with byteSent := true } := rfl
@[simp] theorem after_command {v : Byte} :
    h.after ⟨.serByte v, .command⟩ s = { h with commands := h.commands + 1 } := rfl
@[simp] theorem after_otherTransfer {v : Byte} : h.after ⟨.serByte v, .other⟩ s = h := rfl

/-- A rising edge that should capture a data byte opens its frame. -/
theorem after_capture (hl : s.latchIn = false) : h.after ⟨.latchSet true, .dataByte⟩ s = ⟨false, true, 0⟩ := by
  simp [Sender.after, isTransfer, Planned.captures, isRise, hl]

/-- A falling edge closes the frame. -/
theorem after_fall {m : Purpose} (hl : s.latchIn = true) :
    h.after ⟨.latchSet false, m⟩ s = { h with framing := false, commands := 0 } := by
  simp [Sender.after, isTransfer, Planned.captures, isRise, isFall, hl]

/-- A step that is no stimulus leaves the sender as it was. -/
theorem after_noStimulus (hb : ∀ v : Byte, p.step ≠ .serByte v) (hl : ∀ l : Bool, p.step ≠ .latchSet l) :
    h.after p s = h := by
  obtain ⟨i, m⟩ := p
  cases i with
  | serByte v => exact absurd rfl (hb v)
  | latchSet l => exact absurd rfl (hl l)
  | _ => rfl

end Sys2Proof.Machine
end

