-- ==== Sys2Proof/Laws/PerInstr.lean ====
section
/-! SUPPORT. Per-instruction family `SpellingWf`: a step's spelling is well-formed and stands for the step (R101). -/

namespace Sys2Proof.Laws.SpellingWf

/-- The step, spelled out, is well-formed and is read back. -/
def Statement (i : Instr) : Prop := i.wf = true ∧ i.spelling.toInstr? = some i

theorem rxInit : Statement .rxInit := ⟨rfl, rfl⟩
theorem rxStart : Statement .rxStart := ⟨rfl, rfl⟩
theorem bamInit : Statement .bamInit := ⟨rfl, rfl⟩
theorem gieSet : Statement .gieSet := ⟨rfl, rfl⟩
theorem bamStart : Statement .bamStart := ⟨rfl, rfl⟩
theorem loopStart : Statement .loopStart := ⟨rfl, rfl⟩
theorem bamReset : Statement .bamReset := ⟨rfl, rfl⟩
theorem serByte (v : Byte) : Statement (.serByte v) := by
  have h : v.toNat < 256 := v.isLt
  constructor <;> simp [Instr.wf, Instr.spelling, Spelling.wf, Spelling.toInstr?, h]
theorem latchSet (level : Bool) : Statement (.latchSet level) := by cases level <;> exact ⟨rfl, rfl⟩
theorem tick : Statement .tick := ⟨rfl, rfl⟩
theorem svcTimer : Statement .svcTimer := ⟨rfl, rfl⟩
theorem svcLatch : Statement .svcLatch := ⟨rfl, rfl⟩
theorem svcSerial : Statement .svcSerial := ⟨rfl, rfl⟩
theorem cTest : Statement .cTest := ⟨rfl, rfl⟩
theorem cAsm : Statement .cAsm := ⟨rfl, rfl⟩
theorem cInc : Statement .cInc := ⟨rfl, rfl⟩
theorem cClr : Statement .cClr := ⟨rfl, rfl⟩

end Sys2Proof.Laws.SpellingWf
end

