-- ==== Sys2Proof/Laws/State.lean ====
section
/-! SUPPORT. What every named update of the state does to every field: one lemma per field, so that no later proof unfolds
an update. -/

namespace Sys2Proof.Machine

/-! ### `refuse`: R14, R47 -/

@[simp] theorem State.refuse_cfg (s : State) (r : RefuseReason) : (s.refuse r).cfg = s.cfg := rfl
@[simp] theorem State.refuse_script (s : State) (r : RefuseReason) : (s.refuse r).script = s.script := rfl
@[simp] theorem State.refuse_bamStep (s : State) (r : RefuseReason) : (s.refuse r).bamStep = s.bamStep := rfl
@[simp] theorem State.refuse_frontSel (s : State) (r : RefuseReason) : (s.refuse r).frontSel = s.frontSel := rfl
@[simp] theorem State.refuse_tmrRun (s : State) (r : RefuseReason) : (s.refuse r).tmrRun = s.tmrRun := rfl
@[simp] theorem State.refuse_tmrCnt (s : State) (r : RefuseReason) : (s.refuse r).tmrCnt = s.tmrCnt := rfl
@[simp] theorem State.refuse_tmrReload (s : State) (r : RefuseReason) : (s.refuse r).tmrReload = s.tmrReload := rfl
@[simp] theorem State.refuse_tmrPend (s : State) (r : RefuseReason) : (s.refuse r).tmrPend = s.tmrPend := rfl
@[simp] theorem State.refuse_gie (s : State) (r : RefuseReason) : (s.refuse r).gie = s.gie := rfl
@[simp] theorem State.refuse_latchIn (s : State) (r : RefuseReason) : (s.refuse r).latchIn = s.latchIn := rfl
@[simp] theorem State.refuse_latPend (s : State) (r : RefuseReason) : (s.refuse r).latPend = s.latPend := rfl
@[simp] theorem State.refuse_latIe (s : State) (r : RefuseReason) : (s.refuse r).latIe = s.latIe := rfl
@[simp] theorem State.refuse_serData (s : State) (r : RefuseReason) : (s.refuse r).serData = s.serData := rfl
@[simp] theorem State.refuse_serFlag (s : State) (r : RefuseReason) : (s.refuse r).serFlag = s.serFlag := rfl
@[simp] theorem State.refuse_serIe (s : State) (r : RefuseReason) : (s.refuse r).serIe = s.serIe := rfl
@[simp] theorem State.refuse_rxByte (s : State) (r : RefuseReason) : (s.refuse r).rxByte = s.rxByte := rfl
@[simp] theorem State.refuse_rxCount (s : State) (r : RefuseReason) : (s.refuse r).rxCount = s.rxCount := rfl
@[simp] theorem State.refuse_rxValid (s : State) (r : RefuseReason) : (s.refuse r).rxValid = s.rxValid := rfl
@[simp] theorem State.refuse_cmdState (s : State) (r : RefuseReason) : (s.refuse r).cmdState = s.cmdState := rfl
@[simp] theorem State.refuse_cEn (s : State) (r : RefuseReason) : (s.refuse r).cEn = s.cEn := rfl
@[simp] theorem State.refuse_cPhase (s : State) (r : RefuseReason) : (s.refuse r).cPhase = s.cPhase := rfl
@[simp] theorem State.refuse_cVal (s : State) (r : RefuseReason) : (s.refuse r).cVal = s.cVal := rfl
@[simp] theorem State.refuse_cCh (s : State) (r : RefuseReason) : (s.refuse r).cCh = s.cCh := rfl
@[simp] theorem State.refuse_lines (s : State) (r : RefuseReason) : (s.refuse r).lines = s.lines := rfl
@[simp] theorem State.refuse_busTrace (s : State) (r : RefuseReason) : (s.refuse r).busTrace = s.busTrace := rfl
@[simp] theorem State.refuse_refused (s : State) (r : RefuseReason) :
    (s.refuse r).refused = true := rfl
@[simp] theorem State.refuse_bootRx (s : State) (r : RefuseReason) : (s.refuse r).bootRx = s.bootRx := rfl
@[simp] theorem State.refuse_bootBam (s : State) (r : RefuseReason) : (s.refuse r).bootBam = s.bootBam := rfl
@[simp] theorem State.refuse_mem (s : State) (r : RefuseReason) : (s.refuse r).mem = s.mem := rfl
@[simp] theorem State.refuse_chips (s : State) (r : RefuseReason) : (s.refuse r).chips = s.chips := rfl

/-! ### `emit`: R13, R46 -/

@[simp] theorem State.emit_cfg (s : State) (rs : List Record) : (s.emit rs).cfg = s.cfg := rfl
@[simp] theorem State.emit_script (s : State) (rs : List Record) : (s.emit rs).script = s.script := rfl
@[simp] theorem State.emit_bamStep (s : State) (rs : List Record) : (s.emit rs).bamStep = s.bamStep := rfl
@[simp] theorem State.emit_frontSel (s : State) (rs : List Record) : (s.emit rs).frontSel = s.frontSel := rfl
@[simp] theorem State.emit_tmrRun (s : State) (rs : List Record) : (s.emit rs).tmrRun = s.tmrRun := rfl
@[simp] theorem State.emit_tmrCnt (s : State) (rs : List Record) : (s.emit rs).tmrCnt = s.tmrCnt := rfl
@[simp] theorem State.emit_tmrReload (s : State) (rs : List Record) : (s.emit rs).tmrReload = s.tmrReload := rfl
@[simp] theorem State.emit_tmrPend (s : State) (rs : List Record) : (s.emit rs).tmrPend = s.tmrPend := rfl
@[simp] theorem State.emit_gie (s : State) (rs : List Record) : (s.emit rs).gie = s.gie := rfl
@[simp] theorem State.emit_latchIn (s : State) (rs : List Record) : (s.emit rs).latchIn = s.latchIn := rfl
@[simp] theorem State.emit_latPend (s : State) (rs : List Record) : (s.emit rs).latPend = s.latPend := rfl
@[simp] theorem State.emit_latIe (s : State) (rs : List Record) : (s.emit rs).latIe = s.latIe := rfl
@[simp] theorem State.emit_serData (s : State) (rs : List Record) : (s.emit rs).serData = s.serData := rfl
@[simp] theorem State.emit_serFlag (s : State) (rs : List Record) : (s.emit rs).serFlag = s.serFlag := rfl
@[simp] theorem State.emit_serIe (s : State) (rs : List Record) : (s.emit rs).serIe = s.serIe := rfl
@[simp] theorem State.emit_rxByte (s : State) (rs : List Record) : (s.emit rs).rxByte = s.rxByte := rfl
@[simp] theorem State.emit_rxCount (s : State) (rs : List Record) : (s.emit rs).rxCount = s.rxCount := rfl
@[simp] theorem State.emit_rxValid (s : State) (rs : List Record) : (s.emit rs).rxValid = s.rxValid := rfl
@[simp] theorem State.emit_cmdState (s : State) (rs : List Record) : (s.emit rs).cmdState = s.cmdState := rfl
@[simp] theorem State.emit_cEn (s : State) (rs : List Record) : (s.emit rs).cEn = s.cEn := rfl
@[simp] theorem State.emit_cPhase (s : State) (rs : List Record) : (s.emit rs).cPhase = s.cPhase := rfl
@[simp] theorem State.emit_cVal (s : State) (rs : List Record) : (s.emit rs).cVal = s.cVal := rfl
@[simp] theorem State.emit_cCh (s : State) (rs : List Record) : (s.emit rs).cCh = s.cCh := rfl
@[simp] theorem State.emit_lines (s : State) (rs : List Record) :
    (s.emit rs).lines = (observe s.cfg (s.lines, s.chips) rs).1 := rfl
@[simp] theorem State.emit_busTrace (s : State) (rs : List Record) :
    (s.emit rs).busTrace = s.busTrace ++ rs := rfl
@[simp] theorem State.emit_refused (s : State) (rs : List Record) : (s.emit rs).refused = s.refused := rfl
@[simp] theorem State.emit_bootRx (s : State) (rs : List Record) : (s.emit rs).bootRx = s.bootRx := rfl
@[simp] theorem State.emit_bootBam (s : State) (rs : List Record) : (s.emit rs).bootBam = s.bootBam := rfl
@[simp] theorem State.emit_mem (s : State) (rs : List Record) : (s.emit rs).mem = s.mem := rfl
@[simp] theorem State.emit_chips (s : State) (rs : List Record) :
    (s.emit rs).chips = (observe s.cfg (s.lines, s.chips) rs).2 := rfl

/-! ### `loadTimer`: R26, R27 -/

@[simp] theorem State.loadTimer_cfg (s : State) (v : Nat) : (s.loadTimer v).cfg = s.cfg := rfl
@[simp] theorem State.loadTimer_script (s : State) (v : Nat) : (s.loadTimer v).script = s.script := rfl
@[simp] theorem State.loadTimer_bamStep (s : State) (v : Nat) : (s.loadTimer v).bamStep = s.bamStep := rfl
@[simp] theorem State.loadTimer_frontSel (s : State) (v : Nat) : (s.loadTimer v).frontSel = s.frontSel := rfl
@[simp] theorem State.loadTimer_tmrRun (s : State) (v : Nat) : (s.loadTimer v).tmrRun = s.tmrRun := rfl
@[simp] theorem State.loadTimer_tmrCnt (s : State) (v : Nat) :
    (s.loadTimer v).tmrCnt = timerValue s.cfg v := rfl
@[simp] theorem State.loadTimer_tmrReload (s : State) (v : Nat) :
    (s.loadTimer v).tmrReload = timerValue s.cfg v := rfl
@[simp] theorem State.loadTimer_tmrPend (s : State) (v : Nat) : (s.loadTimer v).tmrPend = s.tmrPend := rfl
@[simp] theorem State.loadTimer_gie (s : State) (v : Nat) : (s.loadTimer v).gie = s.gie := rfl
@[simp] theorem State.loadTimer_latchIn (s : State) (v : Nat) : (s.loadTimer v).latchIn = s.latchIn := rfl
@[simp] theorem State.loadTimer_latPend (s : State) (v : Nat) : (s.loadTimer v).latPend = s.latPend := rfl
@[simp] theorem State.loadTimer_latIe (s : State) (v : Nat) : (s.loadTimer v).latIe = s.latIe := rfl
@[simp] theorem State.loadTimer_serData (s : State) (v : Nat) : (s.loadTimer v).serData = s.serData := rfl
@[simp] theorem State.loadTimer_serFlag (s : State) (v : Nat) : (s.loadTimer v).serFlag = s.serFlag := rfl
@[simp] theorem State.loadTimer_serIe (s : State) (v : Nat) : (s.loadTimer v).serIe = s.serIe := rfl
@[simp] theorem State.loadTimer_rxByte (s : State) (v : Nat) : (s.loadTimer v).rxByte = s.rxByte := rfl
@[simp] theorem State.loadTimer_rxCount (s : State) (v : Nat) : (s.loadTimer v).rxCount = s.rxCount := rfl
@[simp] theorem State.loadTimer_rxValid (s : State) (v : Nat) : (s.loadTimer v).rxValid = s.rxValid := rfl
@[simp] theorem State.loadTimer_cmdState (s : State) (v : Nat) : (s.loadTimer v).cmdState = s.cmdState := rfl
@[simp] theorem State.loadTimer_cEn (s : State) (v : Nat) : (s.loadTimer v).cEn = s.cEn := rfl
@[simp] theorem State.loadTimer_cPhase (s : State) (v : Nat) : (s.loadTimer v).cPhase = s.cPhase := rfl
@[simp] theorem State.loadTimer_cVal (s : State) (v : Nat) : (s.loadTimer v).cVal = s.cVal := rfl
@[simp] theorem State.loadTimer_cCh (s : State) (v : Nat) : (s.loadTimer v).cCh = s.cCh := rfl
@[simp] theorem State.loadTimer_lines (s : State) (v : Nat) : (s.loadTimer v).lines = s.lines := rfl
@[simp] theorem State.loadTimer_busTrace (s : State) (v : Nat) : (s.loadTimer v).busTrace = s.busTrace := rfl
@[simp] theorem State.loadTimer_refused (s : State) (v : Nat) : (s.loadTimer v).refused = s.refused := rfl
@[simp] theorem State.loadTimer_bootRx (s : State) (v : Nat) : (s.loadTimer v).bootRx = s.bootRx := rfl
@[simp] theorem State.loadTimer_bootBam (s : State) (v : Nat) : (s.loadTimer v).bootBam = s.bootBam := rfl
@[simp] theorem State.loadTimer_mem (s : State) (v : Nat) : (s.loadTimer v).mem = s.mem := rfl
@[simp] theorem State.loadTimer_chips (s : State) (v : Nat) : (s.loadTimer v).chips = s.chips := rfl

/-! ### `raise`: R253 -/

@[simp] theorem State.raise_cfg (s : State) (svc : Service) : (s.raise svc).cfg = s.cfg := by cases svc <;> rfl
@[simp] theorem State.raise_script (s : State) (svc : Service) : (s.raise svc).script = s.script := by cases svc <;> rfl
@[simp] theorem State.raise_bamStep (s : State) (svc : Service) : (s.raise svc).bamStep = s.bamStep := by cases svc <;> rfl
@[simp] theorem State.raise_frontSel (s : State) (svc : Service) : (s.raise svc).frontSel = s.frontSel := by cases svc <;> rfl
@[simp] theorem State.raise_tmrRun (s : State) (svc : Service) : (s.raise svc).tmrRun = s.tmrRun := by cases svc <;> rfl
@[simp] theorem State.raise_tmrCnt (s : State) (svc : Service) : (s.raise svc).tmrCnt = s.tmrCnt := by cases svc <;> rfl
@[simp] theorem State.raise_tmrReload (s : State) (svc : Service) : (s.raise svc).tmrReload = s.tmrReload := by cases svc <;> rfl
@[simp] theorem State.raise_gie (s : State) (svc : Service) : (s.raise svc).gie = s.gie := by cases svc <;> rfl
@[simp] theorem State.raise_latchIn (s : State) (svc : Service) : (s.raise svc).latchIn = s.latchIn := by cases svc <;> rfl
@[simp] theorem State.raise_latIe (s : State) (svc : Service) : (s.raise svc).latIe = s.latIe := by cases svc <;> rfl
@[simp] theorem State.raise_serData (s : State) (svc : Service) : (s.raise svc).serData = s.serData := by cases svc <;> rfl
@[simp] theorem State.raise_serIe (s : State) (svc : Service) : (s.raise svc).serIe = s.serIe := by cases svc <;> rfl
@[simp] theorem State.raise_rxByte (s : State) (svc : Service) : (s.raise svc).rxByte = s.rxByte := by cases svc <;> rfl
@[simp] theorem State.raise_rxCount (s : State) (svc : Service) : (s.raise svc).rxCount = s.rxCount := by cases svc <;> rfl
@[simp] theorem State.raise_rxValid (s : State) (svc : Service) : (s.raise svc).rxValid = s.rxValid := by cases svc <;> rfl
@[simp] theorem State.raise_cmdState (s : State) (svc : Service) : (s.raise svc).cmdState = s.cmdState := by cases svc <;> rfl
@[simp] theorem State.raise_cEn (s : State) (svc : Service) : (s.raise svc).cEn = s.cEn := by cases svc <;> rfl
@[simp] theorem State.raise_cPhase (s : State) (svc : Service) : (s.raise svc).cPhase = s.cPhase := by cases svc <;> rfl
@[simp] theorem State.raise_cVal (s : State) (svc : Service) : (s.raise svc).cVal = s.cVal := by cases svc <;> rfl
@[simp] theorem State.raise_cCh (s : State) (svc : Service) : (s.raise svc).cCh = s.cCh := by cases svc <;> rfl
@[simp] theorem State.raise_lines (s : State) (svc : Service) : (s.raise svc).lines = s.lines := by cases svc <;> rfl
@[simp] theorem State.raise_busTrace (s : State) (svc : Service) : (s.raise svc).busTrace = s.busTrace := by cases svc <;> rfl
@[simp] theorem State.raise_refused (s : State) (svc : Service) : (s.raise svc).refused = s.refused := by cases svc <;> rfl
@[simp] theorem State.raise_bootRx (s : State) (svc : Service) : (s.raise svc).bootRx = s.bootRx := by cases svc <;> rfl
@[simp] theorem State.raise_bootBam (s : State) (svc : Service) : (s.raise svc).bootBam = s.bootBam := by cases svc <;> rfl
@[simp] theorem State.raise_mem (s : State) (svc : Service) : (s.raise svc).mem = s.mem := by cases svc <;> rfl
@[simp] theorem State.raise_chips (s : State) (svc : Service) : (s.raise svc).chips = s.chips := by cases svc <;> rfl
@[simp] theorem State.raise_timer_tmrPend (s : State) : (s.raise .timer).tmrPend = true := rfl
@[simp] theorem State.raise_latch_tmrPend (s : State) : (s.raise .latch).tmrPend = s.tmrPend := rfl
@[simp] theorem State.raise_serial_tmrPend (s : State) : (s.raise .serial).tmrPend = s.tmrPend := rfl
@[simp] theorem State.raise_timer_latPend (s : State) : (s.raise .timer).latPend = s.latPend := rfl
@[simp] theorem State.raise_latch_latPend (s : State) : (s.raise .latch).latPend = true := rfl
@[simp] theorem State.raise_serial_latPend (s : State) : (s.raise .serial).latPend = s.latPend := rfl
@[simp] theorem State.raise_timer_serFlag (s : State) : (s.raise .timer).serFlag = s.serFlag := rfl
@[simp] theorem State.raise_latch_serFlag (s : State) : (s.raise .latch).serFlag = s.serFlag := rfl
@[simp] theorem State.raise_serial_serFlag (s : State) : (s.raise .serial).serFlag = true := rfl

/-! ### `clearRequest`: R253 -/

@[simp] theorem State.clearRequest_cfg (s : State) (svc : Service) : (s.clearRequest svc).cfg = s.cfg := by cases svc <;> rfl
@[simp] theorem State.clearRequest_script (s : State) (svc : Service) : (s.clearRequest svc).script = s.script := by cases svc <;> rfl
@[simp] theorem State.clearRequest_bamStep (s : State) (svc : Service) : (s.clearRequest svc).bamStep = s.bamStep := by cases svc <;> rfl
@[simp] theorem State.clearRequest_frontSel (s : State) (svc : Service) : (s.clearRequest svc).frontSel = s.frontSel := by cases svc <;> rfl
@[simp] theorem State.clearRequest_tmrRun (s : State) (svc : Service) : (s.clearRequest svc).tmrRun = s.tmrRun := by cases svc <;> rfl
@[simp] theorem State.clearRequest_tmrCnt (s : State) (svc : Service) : (s.clearRequest svc).tmrCnt = s.tmrCnt := by cases svc <;> rfl
@[simp] theorem State.clearRequest_tmrReload (s : State) (svc : Service) : (s.clearRequest svc).tmrReload = s.tmrReload := by cases svc <;> rfl
@[simp] theorem State.clearRequest_gie (s : State) (svc : Service) : (s.clearRequest svc).gie = s.gie := by cases svc <;> rfl
@[simp] theorem State.clearRequest_latchIn (s : State) (svc : Service) : (s.clearRequest svc).latchIn = s.latchIn := by cases svc <;> rfl
@[simp] theorem State.clearRequest_latIe (s : State) (svc : Service) : (s.clearRequest svc).latIe = s.latIe := by cases svc <;> rfl
@[simp] theorem State.clearRequest_serData (s : State) (svc : Service) : (s.clearRequest svc).serData = s.serData := by cases svc <;> rfl
@[simp] theorem State.clearRequest_serIe (s : State) (svc : Service) : (s.clearRequest svc).serIe = s.serIe := by cases svc <;> rfl
@[simp] theorem State.clearRequest_rxByte (s : State) (svc : Service) : (s.clearRequest svc).rxByte = s.rxByte := by cases svc <;> rfl
@[simp] theorem State.clearRequest_rxCount (s : State) (svc : Service) : (s.clearRequest svc).rxCount = s.rxCount := by cases svc <;> rfl
@[simp] theorem State.clearRequest_rxValid (s : State) (svc : Service) : (s.clearRequest svc).rxValid = s.rxValid := by cases svc <;> rfl
@[simp] theorem State.clearRequest_cmdState (s : State) (svc : Service) : (s.clearRequest svc).cmdState = s.cmdState := by cases svc <;> rfl
@[simp] theorem State.clearRequest_cEn (s : State) (svc : Service) : (s.clearRequest svc).cEn = s.cEn := by cases svc <;> rfl
@[simp] theorem State.clearRequest_cPhase (s : State) (svc : Service) : (s.clearRequest svc).cPhase = s.cPhase := by cases svc <;> rfl
@[simp] theorem State.clearRequest_cVal (s : State) (svc : Service) : (s.clearRequest svc).cVal = s.cVal := by cases svc <;> rfl
@[simp] theorem State.clearRequest_cCh (s : State) (svc : Service) : (s.clearRequest svc).cCh = s.cCh := by cases svc <;> rfl
@[simp] theorem State.clearRequest_lines (s : State) (svc : Service) : (s.clearRequest svc).lines = s.lines := by cases svc <;> rfl
@[simp] theorem State.clearRequest_busTrace (s : State) (svc : Service) : (s.clearRequest svc).busTrace = s.busTrace := by cases svc <;> rfl
@[simp] theorem State.clearRequest_refused (s : State) (svc : Service) : (s.clearRequest svc).refused = s.refused := by cases svc <;> rfl
@[simp] theorem State.clearRequest_bootRx (s : State) (svc : Service) : (s.clearRequest svc).bootRx = s.bootRx := by cases svc <;> rfl
@[simp] theorem State.clearRequest_bootBam (s : State) (svc : Service) : (s.clearRequest svc).bootBam = s.bootBam := by cases svc <;> rfl
@[simp] theorem State.clearRequest_mem (s : State) (svc : Service) : (s.clearRequest svc).mem = s.mem := by cases svc <;> rfl
@[simp] theorem State.clearRequest_chips (s : State) (svc : Service) : (s.clearRequest svc).chips = s.chips := by cases svc <;> rfl
@[simp] theorem State.clearRequest_timer_tmrPend (s : State) : (s.clearRequest .timer).tmrPend = false := rfl
@[simp] theorem State.clearRequest_latch_tmrPend (s : State) : (s.clearRequest .latch).tmrPend = s.tmrPend := rfl
@[simp] theorem State.clearRequest_serial_tmrPend (s : State) : (s.clearRequest .serial).tmrPend = s.tmrPend := rfl
@[simp] theorem State.clearRequest_timer_latPend (s : State) : (s.clearRequest .timer).latPend = s.latPend := rfl
@[simp] theorem State.clearRequest_latch_latPend (s : State) : (s.clearRequest .latch).latPend = false := rfl
@[simp] theorem State.clearRequest_serial_latPend (s : State) : (s.clearRequest .serial).latPend = s.latPend := rfl
@[simp] theorem State.clearRequest_timer_serFlag (s : State) : (s.clearRequest .timer).serFlag = s.serFlag := rfl
@[simp] theorem State.clearRequest_latch_serFlag (s : State) : (s.clearRequest .latch).serFlag = s.serFlag := rfl
@[simp] theorem State.clearRequest_serial_serFlag (s : State) : (s.clearRequest .serial).serFlag = false := rfl

/-! ### `enterService`: R257 -/

@[simp] theorem State.enterService_cfg (s : State) (svc : Service) : (s.enterService svc).cfg = s.cfg := by cases svc <;> rfl
@[simp] theorem State.enterService_script (s : State) (svc : Service) : (s.enterService svc).script = s.script := by cases svc <;> rfl
@[simp] theorem State.enterService_bamStep (s : State) (svc : Service) : (s.enterService svc).bamStep = s.bamStep := by cases svc <;> rfl
@[simp] theorem State.enterService_frontSel (s : State) (svc : Service) : (s.enterService svc).frontSel = s.frontSel := by cases svc <;> rfl
@[simp] theorem State.enterService_tmrRun (s : State) (svc : Service) : (s.enterService svc).tmrRun = s.tmrRun := by cases svc <;> rfl
@[simp] theorem State.enterService_tmrCnt (s : State) (svc : Service) : (s.enterService svc).tmrCnt = s.tmrCnt := by cases svc <;> rfl
@[simp] theorem State.enterService_tmrReload (s : State) (svc : Service) : (s.enterService svc).tmrReload = s.tmrReload := by cases svc <;> rfl
@[simp] theorem State.enterService_gie (s : State) (svc : Service) : (s.enterService svc).gie = s.gie := by cases svc <;> rfl
@[simp] theorem State.enterService_latchIn (s : State) (svc : Service) : (s.enterService svc).latchIn = s.latchIn := by cases svc <;> rfl
@[simp] theorem State.enterService_latIe (s : State) (svc : Service) : (s.enterService svc).latIe = s.latIe := by cases svc <;> rfl
@[simp] theorem State.enterService_serData (s : State) (svc : Service) : (s.enterService svc).serData = s.serData := by cases svc <;> rfl
@[simp] theorem State.enterService_serIe (s : State) (svc : Service) : (s.enterService svc).serIe = s.serIe := by cases svc <;> rfl
@[simp] theorem State.enterService_rxByte (s : State) (svc : Service) : (s.enterService svc).rxByte = s.rxByte := by cases svc <;> rfl
@[simp] theorem State.enterService_rxCount (s : State) (svc : Service) : (s.enterService svc).rxCount = s.rxCount := by cases svc <;> rfl
@[simp] theorem State.enterService_rxValid (s : State) (svc : Service) : (s.enterService svc).rxValid = s.rxValid := by cases svc <;> rfl
@[simp] theorem State.enterService_cmdState (s : State) (svc : Service) : (s.enterService svc).cmdState = s.cmdState := by cases svc <;> rfl
@[simp] theorem State.enterService_cEn (s : State) (svc : Service) : (s.enterService svc).cEn = s.cEn := by cases svc <;> rfl
@[simp] theorem State.enterService_cPhase (s : State) (svc : Service) : (s.enterService svc).cPhase = s.cPhase := by cases svc <;> rfl
@[simp] theorem State.enterService_cVal (s : State) (svc : Service) : (s.enterService svc).cVal = s.cVal := by cases svc <;> rfl
@[simp] theorem State.enterService_cCh (s : State) (svc : Service) : (s.enterService svc).cCh = s.cCh := by cases svc <;> rfl
@[simp] theorem State.enterService_lines (s : State) (svc : Service) : (s.enterService svc).lines = s.lines := by cases svc <;> rfl
@[simp] theorem State.enterService_busTrace (s : State) (svc : Service) : (s.enterService svc).busTrace = s.busTrace := by cases svc <;> rfl
@[simp] theorem State.enterService_refused (s : State) (svc : Service) : (s.enterService svc).refused = s.refused := by cases svc <;> rfl
@[simp] theorem State.enterService_bootRx (s : State) (svc : Service) : (s.enterService svc).bootRx = s.bootRx := by cases svc <;> rfl
@[simp] theorem State.enterService_bootBam (s : State) (svc : Service) : (s.enterService svc).bootBam = s.bootBam := by cases svc <;> rfl
@[simp] theorem State.enterService_mem (s : State) (svc : Service) : (s.enterService svc).mem = s.mem := by cases svc <;> rfl
@[simp] theorem State.enterService_chips (s : State) (svc : Service) : (s.enterService svc).chips = s.chips := by cases svc <;> rfl
@[simp] theorem State.enterService_timer_tmrPend (s : State) : (s.enterService .timer).tmrPend = false := rfl
@[simp] theorem State.enterService_latch_tmrPend (s : State) : (s.enterService .latch).tmrPend = s.tmrPend := rfl
@[simp] theorem State.enterService_serial_tmrPend (s : State) : (s.enterService .serial).tmrPend = s.tmrPend := rfl
@[simp] theorem State.enterService_timer_latPend (s : State) : (s.enterService .timer).latPend = s.latPend := rfl
@[simp] theorem State.enterService_latch_latPend (s : State) : (s.enterService .latch).latPend = false := rfl
@[simp] theorem State.enterService_serial_latPend (s : State) : (s.enterService .serial).latPend = s.latPend := rfl
@[simp] theorem State.enterService_timer_serFlag (s : State) : (s.enterService .timer).serFlag = s.serFlag := rfl
@[simp] theorem State.enterService_latch_serFlag (s : State) : (s.enterService .latch).serFlag = s.serFlag := rfl
@[simp] theorem State.enterService_serial_serFlag (s : State) : (s.enterService .serial).serFlag = false := rfl

/-! ### `leaveService`: R258 -/

@[simp] theorem State.leaveService_eq (s : State) : s.leaveService = s := rfl

/-! ### `startBam`: R123 -/

@[simp] theorem State.startBam_cfg (s : State) : (s.startBam).cfg = s.cfg := rfl
@[simp] theorem State.startBam_script (s : State) : (s.startBam).script = s.script := rfl
@[simp] theorem State.startBam_bamStep (s : State) : (s.startBam).bamStep = s.bamStep := rfl
@[simp] theorem State.startBam_frontSel (s : State) : (s.startBam).frontSel = s.frontSel := rfl
@[simp] theorem State.startBam_tmrRun (s : State) :
    (s.startBam).tmrRun = true := rfl
@[simp] theorem State.startBam_tmrCnt (s : State) : (s.startBam).tmrCnt = s.tmrCnt := rfl
@[simp] theorem State.startBam_tmrReload (s : State) : (s.startBam).tmrReload = s.tmrReload := rfl
@[simp] theorem State.startBam_tmrPend (s : State) : (s.startBam).tmrPend = s.tmrPend := rfl
@[simp] theorem State.startBam_gie (s : State) : (s.startBam).gie = s.gie := rfl
@[simp] theorem State.startBam_latchIn (s : State) : (s.startBam).latchIn = s.latchIn := rfl
@[simp] theorem State.startBam_latPend (s : State) : (s.startBam).latPend = s.latPend := rfl
@[simp] theorem State.startBam_latIe (s : State) : (s.startBam).latIe = s.latIe := rfl
@[simp] theorem State.startBam_serData (s : State) : (s.startBam).serData = s.serData := rfl
@[simp] theorem State.startBam_serFlag (s : State) : (s.startBam).serFlag = s.serFlag := rfl
@[simp] theorem State.startBam_serIe (s : State) : (s.startBam).serIe = s.serIe := rfl
@[simp] theorem State.startBam_rxByte (s : State) : (s.startBam).rxByte = s.rxByte := rfl
@[simp] theorem State.startBam_rxCount (s : State) : (s.startBam).rxCount = s.rxCount := rfl
@[simp] theorem State.startBam_rxValid (s : State) : (s.startBam).rxValid = s.rxValid := rfl
@[simp] theorem State.startBam_cmdState (s : State) : (s.startBam).cmdState = s.cmdState := rfl
@[simp] theorem State.startBam_cEn (s : State) : (s.startBam).cEn = s.cEn := rfl
@[simp] theorem State.startBam_cPhase (s : State) : (s.startBam).cPhase = s.cPhase := rfl
@[simp] theorem State.startBam_cVal (s : State) : (s.startBam).cVal = s.cVal := rfl
@[simp] theorem State.startBam_cCh (s : State) : (s.startBam).cCh = s.cCh := rfl
@[simp] theorem State.startBam_lines (s : State) : (s.startBam).lines = s.lines := rfl
@[simp] theorem State.startBam_busTrace (s : State) : (s.startBam).busTrace = s.busTrace := rfl
@[simp] theorem State.startBam_refused (s : State) : (s.startBam).refused = s.refused := rfl
@[simp] theorem State.startBam_bootRx (s : State) : (s.startBam).bootRx = s.bootRx := rfl
@[simp] theorem State.startBam_bootBam (s : State) : (s.startBam).bootBam = s.bootBam := rfl
@[simp] theorem State.startBam_mem (s : State) : (s.startBam).mem = s.mem := rfl
@[simp] theorem State.startBam_chips (s : State) : (s.startBam).chips = s.chips := rfl

/-! ### `resetBam`: R125 -/

@[simp] theorem State.resetBam_cfg (s : State) : (s.resetBam).cfg = s.cfg := rfl
@[simp] theorem State.resetBam_script (s : State) : (s.resetBam).script = s.script := rfl
@[simp] theorem State.resetBam_bamStep (s : State) :
    (s.resetBam).bamStep = 0 := rfl
@[simp] theorem State.resetBam_frontSel (s : State) : (s.resetBam).frontSel = s.frontSel := rfl
@[simp] theorem State.resetBam_tmrRun (s : State) :
    (s.resetBam).tmrRun = false := rfl
@[simp] theorem State.resetBam_tmrCnt (s : State) :
    (s.resetBam).tmrCnt = timerValue s.cfg (s.cfg.period 0) := rfl
@[simp] theorem State.resetBam_tmrReload (s : State) :
    (s.resetBam).tmrReload = timerValue s.cfg (s.cfg.period 0) := rfl
@[simp] theorem State.resetBam_tmrPend (s : State) : (s.resetBam).tmrPend = s.tmrPend := rfl
@[simp] theorem State.resetBam_gie (s : State) : (s.resetBam).gie = s.gie := rfl
@[simp] theorem State.resetBam_latchIn (s : State) : (s.resetBam).latchIn = s.latchIn := rfl
@[simp] theorem State.resetBam_latPend (s : State) : (s.resetBam).latPend = s.latPend := rfl
@[simp] theorem State.resetBam_latIe (s : State) : (s.resetBam).latIe = s.latIe := rfl
@[simp] theorem State.resetBam_serData (s : State) : (s.resetBam).serData = s.serData := rfl
@[simp] theorem State.resetBam_serFlag (s : State) : (s.resetBam).serFlag = s.serFlag := rfl
@[simp] theorem State.resetBam_serIe (s : State) : (s.resetBam).serIe = s.serIe := rfl
@[simp] theorem State.resetBam_rxByte (s : State) : (s.resetBam).rxByte = s.rxByte := rfl
@[simp] theorem State.resetBam_rxCount (s : State) : (s.resetBam).rxCount = s.rxCount := rfl
@[simp] theorem State.resetBam_rxValid (s : State) : (s.resetBam).rxValid = s.rxValid := rfl
@[simp] theorem State.resetBam_cmdState (s : State) : (s.resetBam).cmdState = s.cmdState := rfl
@[simp] theorem State.resetBam_cEn (s : State) : (s.resetBam).cEn = s.cEn := rfl
@[simp] theorem State.resetBam_cPhase (s : State) : (s.resetBam).cPhase = s.cPhase := rfl
@[simp] theorem State.resetBam_cVal (s : State) : (s.resetBam).cVal = s.cVal := rfl
@[simp] theorem State.resetBam_cCh (s : State) : (s.resetBam).cCh = s.cCh := rfl
@[simp] theorem State.resetBam_lines (s : State) : (s.resetBam).lines = s.lines := rfl
@[simp] theorem State.resetBam_busTrace (s : State) : (s.resetBam).busTrace = s.busTrace := rfl
@[simp] theorem State.resetBam_refused (s : State) : (s.resetBam).refused = s.refused := rfl
@[simp] theorem State.resetBam_bootRx (s : State) : (s.resetBam).bootRx = s.bootRx := rfl
@[simp] theorem State.resetBam_bootBam (s : State) : (s.resetBam).bootBam = s.bootBam := rfl
@[simp] theorem State.resetBam_mem (s : State) : (s.resetBam).mem = s.mem := rfl
@[simp] theorem State.resetBam_chips (s : State) : (s.resetBam).chips = s.chips := rfl

/-! ### `swap`: R135 -/

@[simp] theorem State.swap_cfg (s : State) : (s.swap).cfg = s.cfg := rfl
@[simp] theorem State.swap_script (s : State) : (s.swap).script = s.script := rfl
@[simp] theorem State.swap_bamStep (s : State) : (s.swap).bamStep = s.bamStep := rfl
@[simp] theorem State.swap_frontSel (s : State) :
    (s.swap).frontSel = s.frontSel.other := rfl
@[simp] theorem State.swap_tmrRun (s : State) : (s.swap).tmrRun = s.tmrRun := rfl
@[simp] theorem State.swap_tmrCnt (s : State) : (s.swap).tmrCnt = s.tmrCnt := rfl
@[simp] theorem State.swap_tmrReload (s : State) : (s.swap).tmrReload = s.tmrReload := rfl
@[simp] theorem State.swap_tmrPend (s : State) : (s.swap).tmrPend = s.tmrPend := rfl
@[simp] theorem State.swap_gie (s : State) : (s.swap).gie = s.gie := rfl
@[simp] theorem State.swap_latchIn (s : State) : (s.swap).latchIn = s.latchIn := rfl
@[simp] theorem State.swap_latPend (s : State) : (s.swap).latPend = s.latPend := rfl
@[simp] theorem State.swap_latIe (s : State) : (s.swap).latIe = s.latIe := rfl
@[simp] theorem State.swap_serData (s : State) : (s.swap).serData = s.serData := rfl
@[simp] theorem State.swap_serFlag (s : State) : (s.swap).serFlag = s.serFlag := rfl
@[simp] theorem State.swap_serIe (s : State) : (s.swap).serIe = s.serIe := rfl
@[simp] theorem State.swap_rxByte (s : State) : (s.swap).rxByte = s.rxByte := rfl
@[simp] theorem State.swap_rxCount (s : State) : (s.swap).rxCount = s.rxCount := rfl
@[simp] theorem State.swap_rxValid (s : State) : (s.swap).rxValid = s.rxValid := rfl
@[simp] theorem State.swap_cmdState (s : State) : (s.swap).cmdState = s.cmdState := rfl
@[simp] theorem State.swap_cEn (s : State) : (s.swap).cEn = s.cEn := rfl
@[simp] theorem State.swap_cPhase (s : State) : (s.swap).cPhase = s.cPhase := rfl
@[simp] theorem State.swap_cVal (s : State) : (s.swap).cVal = s.cVal := rfl
@[simp] theorem State.swap_cCh (s : State) : (s.swap).cCh = s.cCh := rfl
@[simp] theorem State.swap_lines (s : State) : (s.swap).lines = s.lines := rfl
@[simp] theorem State.swap_busTrace (s : State) : (s.swap).busTrace = s.busTrace := rfl
@[simp] theorem State.swap_refused (s : State) : (s.swap).refused = s.refused := rfl
@[simp] theorem State.swap_bootRx (s : State) : (s.swap).bootRx = s.bootRx := rfl
@[simp] theorem State.swap_bootBam (s : State) : (s.swap).bootBam = s.bootBam := rfl
@[simp] theorem State.swap_mem (s : State) : (s.swap).mem = s.mem := rfl
@[simp] theorem State.swap_chips (s : State) : (s.swap).chips = s.chips := rfl

/-! ### `rxClear`: R185 -/

@[simp] theorem State.rxClear_cfg (s : State) : (s.rxClear).cfg = s.cfg := rfl
@[simp] theorem State.rxClear_script (s : State) : (s.rxClear).script = s.script := rfl
@[simp] theorem State.rxClear_bamStep (s : State) : (s.rxClear).bamStep = s.bamStep := rfl
@[simp] theorem State.rxClear_frontSel (s : State) : (s.rxClear).frontSel = s.frontSel := rfl
@[simp] theorem State.rxClear_tmrRun (s : State) : (s.rxClear).tmrRun = s.tmrRun := rfl
@[simp] theorem State.rxClear_tmrCnt (s : State) : (s.rxClear).tmrCnt = s.tmrCnt := rfl
@[simp] theorem State.rxClear_tmrReload (s : State) : (s.rxClear).tmrReload = s.tmrReload := rfl
@[simp] theorem State.rxClear_tmrPend (s : State) : (s.rxClear).tmrPend = s.tmrPend := rfl
@[simp] theorem State.rxClear_gie (s : State) : (s.rxClear).gie = s.gie := rfl
@[simp] theorem State.rxClear_latchIn (s : State) : (s.rxClear).latchIn = s.latchIn := rfl
@[simp] theorem State.rxClear_latPend (s : State) : (s.rxClear).latPend = s.latPend := rfl
@[simp] theorem State.rxClear_latIe (s : State) : (s.rxClear).latIe = s.latIe := rfl
@[simp] theorem State.rxClear_serData (s : State) : (s.rxClear).serData = s.serData := rfl
@[simp] theorem State.rxClear_serFlag (s : State) : (s.rxClear).serFlag = s.serFlag := rfl
@[simp] theorem State.rxClear_serIe (s : State) : (s.rxClear).serIe = s.serIe := rfl
@[simp] theorem State.rxClear_rxByte (s : State) :
    (s.rxClear).rxByte = 0 := rfl
@[simp] theorem State.rxClear_rxCount (s : State) :
    (s.rxClear).rxCount = 0 := rfl
@[simp] theorem State.rxClear_rxValid (s : State) :
    (s.rxClear).rxValid = false := rfl
@[simp] theorem State.rxClear_cmdState (s : State) : (s.rxClear).cmdState = s.cmdState := rfl
@[simp] theorem State.rxClear_cEn (s : State) : (s.rxClear).cEn = s.cEn := rfl
@[simp] theorem State.rxClear_cPhase (s : State) : (s.rxClear).cPhase = s.cPhase := rfl
@[simp] theorem State.rxClear_cVal (s : State) : (s.rxClear).cVal = s.cVal := rfl
@[simp] theorem State.rxClear_cCh (s : State) : (s.rxClear).cCh = s.cCh := rfl
@[simp] theorem State.rxClear_lines (s : State) : (s.rxClear).lines = s.lines := rfl
@[simp] theorem State.rxClear_busTrace (s : State) : (s.rxClear).busTrace = s.busTrace := rfl
@[simp] theorem State.rxClear_refused (s : State) : (s.rxClear).refused = s.refused := rfl
@[simp] theorem State.rxClear_bootRx (s : State) : (s.rxClear).bootRx = s.bootRx := rfl
@[simp] theorem State.rxClear_bootBam (s : State) : (s.rxClear).bootBam = s.bootBam := rfl
@[simp] theorem State.rxClear_mem (s : State) : (s.rxClear).mem = s.mem := rfl
@[simp] theorem State.rxClear_chips (s : State) : (s.rxClear).chips = s.chips := rfl

/-! ### `chipClear`: R122 -/

@[simp] theorem State.chipClear_cfg (s : State) : (s.chipClear).cfg = s.cfg := rfl
@[simp] theorem State.chipClear_script (s : State) : (s.chipClear).script = s.script := rfl
@[simp] theorem State.chipClear_bamStep (s : State) : (s.chipClear).bamStep = s.bamStep := rfl
@[simp] theorem State.chipClear_frontSel (s : State) : (s.chipClear).frontSel = s.frontSel := rfl
@[simp] theorem State.chipClear_tmrRun (s : State) : (s.chipClear).tmrRun = s.tmrRun := rfl
@[simp] theorem State.chipClear_tmrCnt (s : State) : (s.chipClear).tmrCnt = s.tmrCnt := rfl
@[simp] theorem State.chipClear_tmrReload (s : State) : (s.chipClear).tmrReload = s.tmrReload := rfl
@[simp] theorem State.chipClear_tmrPend (s : State) : (s.chipClear).tmrPend = s.tmrPend := rfl
@[simp] theorem State.chipClear_gie (s : State) : (s.chipClear).gie = s.gie := rfl
@[simp] theorem State.chipClear_latchIn (s : State) : (s.chipClear).latchIn = s.latchIn := rfl
@[simp] theorem State.chipClear_latPend (s : State) : (s.chipClear).latPend = s.latPend := rfl
@[simp] theorem State.chipClear_latIe (s : State) : (s.chipClear).latIe = s.latIe := rfl
@[simp] theorem State.chipClear_serData (s : State) : (s.chipClear).serData = s.serData := rfl
@[simp] theorem State.chipClear_serFlag (s : State) : (s.chipClear).serFlag = s.serFlag := rfl
@[simp] theorem State.chipClear_serIe (s : State) : (s.chipClear).serIe = s.serIe := rfl
@[simp] theorem State.chipClear_rxByte (s : State) : (s.chipClear).rxByte = s.rxByte := rfl
@[simp] theorem State.chipClear_rxCount (s : State) : (s.chipClear).rxCount = s.rxCount := rfl
@[simp] theorem State.chipClear_rxValid (s : State) : (s.chipClear).rxValid = s.rxValid := rfl
@[simp] theorem State.chipClear_cmdState (s : State) : (s.chipClear).cmdState = s.cmdState := rfl
@[simp] theorem State.chipClear_cEn (s : State) : (s.chipClear).cEn = s.cEn := rfl
@[simp] theorem State.chipClear_cPhase (s : State) : (s.chipClear).cPhase = s.cPhase := rfl
@[simp] theorem State.chipClear_cVal (s : State) : (s.chipClear).cVal = s.cVal := rfl
@[simp] theorem State.chipClear_cCh (s : State) : (s.chipClear).cCh = s.cCh := rfl
@[simp] theorem State.chipClear_lines (s : State) :
    (s.chipClear).lines = (observe s.cfg (s.lines, s.chips) chipClearRecords).1 := State.emit_lines s _
@[simp] theorem State.chipClear_busTrace (s : State) :
    (s.chipClear).busTrace = s.busTrace ++ chipClearRecords := State.emit_busTrace s _
@[simp] theorem State.chipClear_refused (s : State) : (s.chipClear).refused = s.refused := rfl
@[simp] theorem State.chipClear_bootRx (s : State) : (s.chipClear).bootRx = s.bootRx := rfl
@[simp] theorem State.chipClear_bootBam (s : State) : (s.chipClear).bootBam = s.bootBam := rfl
@[simp] theorem State.chipClear_mem (s : State) : (s.chipClear).mem = s.mem := rfl
@[simp] theorem State.chipClear_chips (s : State) :
    (s.chipClear).chips = (observe s.cfg (s.lines, s.chips) chipClearRecords).2 := State.emit_chips s _

/-! ### `latchAssert`: R130 -/

@[simp] theorem State.latchAssert_cfg (s : State) : (s.latchAssert).cfg = s.cfg := rfl
@[simp] theorem State.latchAssert_script (s : State) : (s.latchAssert).script = s.script := rfl
@[simp] theorem State.latchAssert_bamStep (s : State) : (s.latchAssert).bamStep = s.bamStep := rfl
@[simp] theorem State.latchAssert_frontSel (s : State) : (s.latchAssert).frontSel = s.frontSel := rfl
@[simp] theorem State.latchAssert_tmrRun (s : State) : (s.latchAssert).tmrRun = s.tmrRun := rfl
@[simp] theorem State.latchAssert_tmrCnt (s : State) : (s.latchAssert).tmrCnt = s.tmrCnt := rfl
@[simp] theorem State.latchAssert_tmrReload (s : State) : (s.latchAssert).tmrReload = s.tmrReload := rfl
@[simp] theorem State.latchAssert_tmrPend (s : State) : (s.latchAssert).tmrPend = s.tmrPend := rfl
@[simp] theorem State.latchAssert_gie (s : State) : (s.latchAssert).gie = s.gie := rfl
@[simp] theorem State.latchAssert_latchIn (s : State) : (s.latchAssert).latchIn = s.latchIn := rfl
@[simp] theorem State.latchAssert_latPend (s : State) : (s.latchAssert).latPend = s.latPend := rfl
@[simp] theorem State.latchAssert_latIe (s : State) : (s.latchAssert).latIe = s.latIe := rfl
@[simp] theorem State.latchAssert_serData (s : State) : (s.latchAssert).serData = s.serData := rfl
@[simp] theorem State.latchAssert_serFlag (s : State) : (s.latchAssert).serFlag = s.serFlag := rfl
@[simp] theorem State.latchAssert_serIe (s : State) : (s.latchAssert).serIe = s.serIe := rfl
@[simp] theorem State.latchAssert_rxByte (s : State) : (s.latchAssert).rxByte = s.rxByte := rfl
@[simp] theorem State.latchAssert_rxCount (s : State) : (s.latchAssert).rxCount = s.rxCount := rfl
@[simp] theorem State.latchAssert_rxValid (s : State) : (s.latchAssert).rxValid = s.rxValid := rfl
@[simp] theorem State.latchAssert_cmdState (s : State) : (s.latchAssert).cmdState = s.cmdState := rfl
@[simp] theorem State.latchAssert_cEn (s : State) : (s.latchAssert).cEn = s.cEn := rfl
@[simp] theorem State.latchAssert_cPhase (s : State) : (s.latchAssert).cPhase = s.cPhase := rfl
@[simp] theorem State.latchAssert_cVal (s : State) : (s.latchAssert).cVal = s.cVal := rfl
@[simp] theorem State.latchAssert_cCh (s : State) : (s.latchAssert).cCh = s.cCh := rfl
@[simp] theorem State.latchAssert_lines (s : State) :
    (s.latchAssert).lines = (observe s.cfg (s.lines, s.chips) [.lat true, .wait .tLat]).1 := State.emit_lines s _
@[simp] theorem State.latchAssert_busTrace (s : State) :
    (s.latchAssert).busTrace = s.busTrace ++ [.lat true, .wait .tLat] := State.emit_busTrace s _
@[simp] theorem State.latchAssert_refused (s : State) : (s.latchAssert).refused = s.refused := rfl
@[simp] theorem State.latchAssert_bootRx (s : State) : (s.latchAssert).bootRx = s.bootRx := rfl
@[simp] theorem State.latchAssert_bootBam (s : State) : (s.latchAssert).bootBam = s.bootBam := rfl
@[simp] theorem State.latchAssert_mem (s : State) : (s.latchAssert).mem = s.mem := rfl
@[simp] theorem State.latchAssert_chips (s : State) :
    (s.latchAssert).chips = (observe s.cfg (s.lines, s.chips) [.lat true, .wait .tLat]).2 := State.emit_chips s _

/-! ### `transmit`: R131 -/

@[simp] theorem State.transmit_cfg (s : State) (n : BitVec 3) : (s.transmit n).cfg = s.cfg := rfl
@[simp] theorem State.transmit_script (s : State) (n : BitVec 3) : (s.transmit n).script = s.script := rfl
@[simp] theorem State.transmit_bamStep (s : State) (n : BitVec 3) : (s.transmit n).bamStep = s.bamStep := rfl
@[simp] theorem State.transmit_frontSel (s : State) (n : BitVec 3) : (s.transmit n).frontSel = s.frontSel := rfl
@[simp] theorem State.transmit_tmrRun (s : State) (n : BitVec 3) : (s.transmit n).tmrRun = s.tmrRun := rfl
@[simp] theorem State.transmit_tmrCnt (s : State) (n : BitVec 3) : (s.transmit n).tmrCnt = s.tmrCnt := rfl
@[simp] theorem State.transmit_tmrReload (s : State) (n : BitVec 3) : (s.transmit n).tmrReload = s.tmrReload := rfl
@[simp] theorem State.transmit_tmrPend (s : State) (n : BitVec 3) : (s.transmit n).tmrPend = s.tmrPend := rfl
@[simp] theorem State.transmit_gie (s : State) (n : BitVec 3) : (s.transmit n).gie = s.gie := rfl
@[simp] theorem State.transmit_latchIn (s : State) (n : BitVec 3) : (s.transmit n).latchIn = s.latchIn := rfl
@[simp] theorem State.transmit_latPend (s : State) (n : BitVec 3) : (s.transmit n).latPend = s.latPend := rfl
@[simp] theorem State.transmit_latIe (s : State) (n : BitVec 3) : (s.transmit n).latIe = s.latIe := rfl
@[simp] theorem State.transmit_serData (s : State) (n : BitVec 3) : (s.transmit n).serData = s.serData := rfl
@[simp] theorem State.transmit_serFlag (s : State) (n : BitVec 3) : (s.transmit n).serFlag = s.serFlag := rfl
@[simp] theorem State.transmit_serIe (s : State) (n : BitVec 3) : (s.transmit n).serIe = s.serIe := rfl
@[simp] theorem State.transmit_rxByte (s : State) (n : BitVec 3) : (s.transmit n).rxByte = s.rxByte := rfl
@[simp] theorem State.transmit_rxCount (s : State) (n : BitVec 3) : (s.transmit n).rxCount = s.rxCount := rfl
@[simp] theorem State.transmit_rxValid (s : State) (n : BitVec 3) : (s.transmit n).rxValid = s.rxValid := rfl
@[simp] theorem State.transmit_cmdState (s : State) (n : BitVec 3) : (s.transmit n).cmdState = s.cmdState := rfl
@[simp] theorem State.transmit_cEn (s : State) (n : BitVec 3) : (s.transmit n).cEn = s.cEn := rfl
@[simp] theorem State.transmit_cPhase (s : State) (n : BitVec 3) : (s.transmit n).cPhase = s.cPhase := rfl
@[simp] theorem State.transmit_cVal (s : State) (n : BitVec 3) : (s.transmit n).cVal = s.cVal := rfl
@[simp] theorem State.transmit_cCh (s : State) (n : BitVec 3) : (s.transmit n).cCh = s.cCh := rfl
@[simp] theorem State.transmit_lines (s : State) (n : BitVec 3) :
    (s.transmit n).lines = (observe s.cfg (s.lines, s.chips) (transmitRecords s.mem s.frontSel n)).1 := State.emit_lines s _
@[simp] theorem State.transmit_busTrace (s : State) (n : BitVec 3) :
    (s.transmit n).busTrace = s.busTrace ++ transmitRecords s.mem s.frontSel n := State.emit_busTrace s _
@[simp] theorem State.transmit_refused (s : State) (n : BitVec 3) : (s.transmit n).refused = s.refused := rfl
@[simp] theorem State.transmit_bootRx (s : State) (n : BitVec 3) : (s.transmit n).bootRx = s.bootRx := rfl
@[simp] theorem State.transmit_bootBam (s : State) (n : BitVec 3) : (s.transmit n).bootBam = s.bootBam := rfl
@[simp] theorem State.transmit_mem (s : State) (n : BitVec 3) : (s.transmit n).mem = s.mem := rfl
@[simp] theorem State.transmit_chips (s : State) (n : BitVec 3) :
    (s.transmit n).chips = (observe s.cfg (s.lines, s.chips) (transmitRecords s.mem s.frontSel n)).2 := State.emit_chips s _

/-! ### `assemble`: R163; it changes BUF alone -/

@[simp] theorem State.assemble_cfg (s : State) (v : Byte) (c : Byte) : (s.assemble v c).cfg = s.cfg := by unfold State.assemble; split <;> rfl
@[simp] theorem State.assemble_script (s : State) (v : Byte) (c : Byte) : (s.assemble v c).script = s.script := by unfold State.assemble; split <;> rfl
@[simp] theorem State.assemble_bamStep (s : State) (v : Byte) (c : Byte) : (s.assemble v c).bamStep = s.bamStep := by unfold State.assemble; split <;> rfl
@[simp] theorem State.assemble_frontSel (s : State) (v : Byte) (c : Byte) : (s.assemble v c).frontSel = s.frontSel := by unfold State.assemble; split <;> rfl
@[simp] theorem State.assemble_tmrRun (s : State) (v : Byte) (c : Byte) : (s.assemble v c).tmrRun = s.tmrRun := by unfold State.assemble; split <;> rfl
@[simp] theorem State.assemble_tmrCnt (s : State) (v : Byte) (c : Byte) : (s.assemble v c).tmrCnt = s.tmrCnt := by unfold State.assemble; split <;> rfl
@[simp] theorem State.assemble_tmrReload (s : State) (v : Byte) (c : Byte) : (s.assemble v c).tmrReload = s.tmrReload := by unfold State.assemble; split <;> rfl
@[simp] theorem State.assemble_tmrPend (s : State) (v : Byte) (c : Byte) : (s.assemble v c).tmrPend = s.tmrPend := by unfold State.assemble; split <;> rfl
@[simp] theorem State.assemble_gie (s : State) (v : Byte) (c : Byte) : (s.assemble v c).gie = s.gie := by unfold State.assemble; split <;> rfl
@[simp] theorem State.assemble_latchIn (s : State) (v : Byte) (c : Byte) : (s.assemble v c).latchIn = s.latchIn := by unfold State.assemble; split <;> rfl
@[simp] theorem State.assemble_latPend (s : State) (v : Byte) (c : Byte) : (s.assemble v c).latPend = s.latPend := by unfold State.assemble; split <;> rfl
@[simp] theorem State.assemble_latIe (s : State) (v : Byte) (c : Byte) : (s.assemble v c).latIe = s.latIe := by unfold State.assemble; split <;> rfl
@[simp] theorem State.assemble_serData (s : State) (v : Byte) (c : Byte) : (s.assemble v c).serData = s.serData := by unfold State.assemble; split <;> rfl
@[simp] theorem State.assemble_serFlag (s : State) (v : Byte) (c : Byte) : (s.assemble v c).serFlag = s.serFlag := by unfold State.assemble; split <;> rfl
@[simp] theorem State.assemble_serIe (s : State) (v : Byte) (c : Byte) : (s.assemble v c).serIe = s.serIe := by unfold State.assemble; split <;> rfl
@[simp] theorem State.assemble_rxByte (s : State) (v : Byte) (c : Byte) : (s.assemble v c).rxByte = s.rxByte := by unfold State.assemble; split <;> rfl
@[simp] theorem State.assemble_rxCount (s : State) (v : Byte) (c : Byte) : (s.assemble v c).rxCount = s.rxCount := by unfold State.assemble; split <;> rfl
@[simp] theorem State.assemble_rxValid (s : State) (v : Byte) (c : Byte) : (s.assemble v c).rxValid = s.rxValid := by unfold State.assemble; split <;> rfl
@[simp] theorem State.assemble_cmdState (s : State) (v : Byte) (c : Byte) : (s.assemble v c).cmdState = s.cmdState := by unfold State.assemble; split <;> rfl
@[simp] theorem State.assemble_cEn (s : State) (v : Byte) (c : Byte) : (s.assemble v c).cEn = s.cEn := by unfold State.assemble; split <;> rfl
@[simp] theorem State.assemble_cPhase (s : State) (v : Byte) (c : Byte) : (s.assemble v c).cPhase = s.cPhase := by unfold State.assemble; split <;> rfl
@[simp] theorem State.assemble_cVal (s : State) (v : Byte) (c : Byte) : (s.assemble v c).cVal = s.cVal := by unfold State.assemble; split <;> rfl
@[simp] theorem State.assemble_cCh (s : State) (v : Byte) (c : Byte) : (s.assemble v c).cCh = s.cCh := by unfold State.assemble; split <;> rfl
@[simp] theorem State.assemble_lines (s : State) (v : Byte) (c : Byte) : (s.assemble v c).lines = s.lines := by unfold State.assemble; split <;> rfl
@[simp] theorem State.assemble_busTrace (s : State) (v : Byte) (c : Byte) : (s.assemble v c).busTrace = s.busTrace := by unfold State.assemble; split <;> rfl
@[simp] theorem State.assemble_refused (s : State) (v : Byte) (c : Byte) : (s.assemble v c).refused = s.refused := by unfold State.assemble; split <;> rfl
@[simp] theorem State.assemble_bootRx (s : State) (v : Byte) (c : Byte) : (s.assemble v c).bootRx = s.bootRx := by unfold State.assemble; split <;> rfl
@[simp] theorem State.assemble_bootBam (s : State) (v : Byte) (c : Byte) : (s.assemble v c).bootBam = s.bootBam := by unfold State.assemble; split <;> rfl
@[simp] theorem State.assemble_chips (s : State) (v : Byte) (c : Byte) : (s.assemble v c).chips = s.chips := by unfold State.assemble; split <;> rfl

theorem State.assemble_mem_of_lt (s : State) (v c : Byte) (h : c.toNat < 192) :
    (s.assemble v c).mem = assembleMem s.cfg s.frontSel.other v ⟨c.toNat, h⟩ s.mem := by
  simp only [State.assemble, dif_pos h]

theorem State.assemble_of_ge (s : State) (v c : Byte) (h : 192 ≤ c.toNat) : s.assemble v c = s := by
  simp only [State.assemble, dif_neg (Nat.not_lt.2 h)]

/-! ### `rxInit`: R221 -/

@[simp] theorem State.rxInit_cfg (s : State) : (s.rxInit).cfg = s.cfg := rfl
@[simp] theorem State.rxInit_script (s : State) : (s.rxInit).script = s.script := rfl
@[simp] theorem State.rxInit_bamStep (s : State) : (s.rxInit).bamStep = s.bamStep := rfl
@[simp] theorem State.rxInit_frontSel (s : State) : (s.rxInit).frontSel = s.frontSel := rfl
@[simp] theorem State.rxInit_tmrRun (s : State) : (s.rxInit).tmrRun = s.tmrRun := rfl
@[simp] theorem State.rxInit_tmrCnt (s : State) : (s.rxInit).tmrCnt = s.tmrCnt := rfl
@[simp] theorem State.rxInit_tmrReload (s : State) : (s.rxInit).tmrReload = s.tmrReload := rfl
@[simp] theorem State.rxInit_tmrPend (s : State) : (s.rxInit).tmrPend = s.tmrPend := rfl
@[simp] theorem State.rxInit_gie (s : State) : (s.rxInit).gie = s.gie := rfl
@[simp] theorem State.rxInit_latchIn (s : State) : (s.rxInit).latchIn = s.latchIn := rfl
@[simp] theorem State.rxInit_latPend (s : State) :
    (s.rxInit).latPend = false := rfl
@[simp] theorem State.rxInit_latIe (s : State) :
    (s.rxInit).latIe = true := rfl
@[simp] theorem State.rxInit_serData (s : State) : (s.rxInit).serData = s.serData := rfl
@[simp] theorem State.rxInit_serFlag (s : State) : (s.rxInit).serFlag = s.serFlag := rfl
@[simp] theorem State.rxInit_serIe (s : State) :
    (s.rxInit).serIe = false := rfl
@[simp] theorem State.rxInit_rxByte (s : State) :
    (s.rxInit).rxByte = 0 := rfl
@[simp] theorem State.rxInit_rxCount (s : State) :
    (s.rxInit).rxCount = 0 := rfl
@[simp] theorem State.rxInit_rxValid (s : State) :
    (s.rxInit).rxValid = false := rfl
@[simp] theorem State.rxInit_cmdState (s : State) :
    (s.rxInit).cmdState = .awaitFirst := rfl
@[simp] theorem State.rxInit_cEn (s : State) : (s.rxInit).cEn = s.cEn := rfl
@[simp] theorem State.rxInit_cPhase (s : State) : (s.rxInit).cPhase = s.cPhase := rfl
@[simp] theorem State.rxInit_cVal (s : State) : (s.rxInit).cVal = s.cVal := rfl
@[simp] theorem State.rxInit_cCh (s : State) : (s.rxInit).cCh = s.cCh := rfl
@[simp] theorem State.rxInit_lines (s : State) : (s.rxInit).lines = s.lines := rfl
@[simp] theorem State.rxInit_busTrace (s : State) : (s.rxInit).busTrace = s.busTrace := rfl
@[simp] theorem State.rxInit_refused (s : State) : (s.rxInit).refused = s.refused := rfl
@[simp] theorem State.rxInit_bootRx (s : State) :
    (s.rxInit).bootRx = true := rfl
@[simp] theorem State.rxInit_bootBam (s : State) : (s.rxInit).bootBam = s.bootBam := rfl
@[simp] theorem State.rxInit_mem (s : State) : (s.rxInit).mem = s.mem := rfl
@[simp] theorem State.rxInit_chips (s : State) : (s.rxInit).chips = s.chips := rfl

/-! ### `capture`: R182 -/

@[simp] theorem State.capture_cfg (s : State) : (s.capture).cfg = s.cfg := rfl
@[simp] theorem State.capture_script (s : State) : (s.capture).script = s.script := rfl
@[simp] theorem State.capture_bamStep (s : State) : (s.capture).bamStep = s.bamStep := rfl
@[simp] theorem State.capture_frontSel (s : State) : (s.capture).frontSel = s.frontSel := rfl
@[simp] theorem State.capture_tmrRun (s : State) : (s.capture).tmrRun = s.tmrRun := rfl
@[simp] theorem State.capture_tmrCnt (s : State) : (s.capture).tmrCnt = s.tmrCnt := rfl
@[simp] theorem State.capture_tmrReload (s : State) : (s.capture).tmrReload = s.tmrReload := rfl
@[simp] theorem State.capture_tmrPend (s : State) : (s.capture).tmrPend = s.tmrPend := rfl
@[simp] theorem State.capture_gie (s : State) : (s.capture).gie = s.gie := rfl
@[simp] theorem State.capture_latchIn (s : State) : (s.capture).latchIn = s.latchIn := rfl
@[simp] theorem State.capture_latPend (s : State) : (s.capture).latPend = s.latPend := rfl
@[simp] theorem State.capture_latIe (s : State) : (s.capture).latIe = s.latIe := rfl
@[simp] theorem State.capture_serData (s : State) : (s.capture).serData = s.serData := rfl
@[simp] theorem State.capture_serFlag (s : State) :
    (s.capture).serFlag = false := rfl
@[simp] theorem State.capture_serIe (s : State) : (s.capture).serIe = s.serIe := rfl
@[simp] theorem State.capture_rxByte (s : State) :
    (s.capture).rxByte = s.serData := rfl
@[simp] theorem State.capture_rxCount (s : State) : (s.capture).rxCount = s.rxCount := rfl
@[simp] theorem State.capture_rxValid (s : State) :
    (s.capture).rxValid = true := rfl
@[simp] theorem State.capture_cmdState (s : State) : (s.capture).cmdState = s.cmdState := rfl
@[simp] theorem State.capture_cEn (s : State) : (s.capture).cEn = s.cEn := rfl
@[simp] theorem State.capture_cPhase (s : State) : (s.capture).cPhase = s.cPhase := rfl
@[simp] theorem State.capture_cVal (s : State) : (s.capture).cVal = s.cVal := rfl
@[simp] theorem State.capture_cCh (s : State) : (s.capture).cCh = s.cCh := rfl
@[simp] theorem State.capture_lines (s : State) : (s.capture).lines = s.lines := rfl
@[simp] theorem State.capture_busTrace (s : State) : (s.capture).busTrace = s.busTrace := rfl
@[simp] theorem State.capture_refused (s : State) : (s.capture).refused = s.refused := rfl
@[simp] theorem State.capture_bootRx (s : State) : (s.capture).bootRx = s.bootRx := rfl
@[simp] theorem State.capture_bootBam (s : State) : (s.capture).bootBam = s.bootBam := rfl
@[simp] theorem State.capture_mem (s : State) : (s.capture).mem = s.mem := rfl
@[simp] theorem State.capture_chips (s : State) : (s.capture).chips = s.chips := rfl

end Sys2Proof.Machine
end

