-- ==== Sys2Proof/Tests/Slice0.lean ====
section
/-! SUPPORT. Tests: ill-formed terms the checks refuse, every step's event word written out from the opcode map, one or two
small steps per instruction with the results of `spec/95_test_vectors.md`, and for every statement with hypotheses a
concrete state and operands that meet them. -/

namespace Sys2Proof.Tests

open Sys2Proof Sys2Proof.Machine

/-! ## Helpers -/

/-- The power-on state with the example configuration and dark driver chips, so that it can be evaluated. -/
def powerOn : State := { State.reset with cfg := Config.d30, chips := darkChips }

/-- The state after `BOOT` (R302), with the trace left empty. -/
def booted : State := { powerOn with
  tmrRun := true, tmrCnt := 1, tmrReload := 1, gie := true, latIe := true, cEn := true,
  lines := ⟨0x00, false, false, false⟩, bootRx := true, bootBam := true }

/-- The outcome is a next state that meets a check. -/
def nextHas (o : Host.Outcome State Fault Refusal) (check : State → Bool) : Bool :=
  match o with
  | .next t => check t
  | .fault _ => false
  | .refused _ => false

/-- The outcome is a refusal of the given name. -/
def refusedAs (o : Host.Outcome State Fault Refusal) (r : Refusal) : Bool :=
  match o with
  | .next _ => false
  | .fault _ => false
  | .refused q => q == r

/-- A step takes a next state in which a piece of state differs. -/
def changes {α : Type} [BEq α] (get : State → α) (i : Instr) (s : State) : Bool :=
  nextHas (exec i s) fun t => !(get t == get s)

/-- A step takes a flag from one value to the other. -/
def flips (get : State → Bool) (before : Bool) (i : Instr) (s : State) : Bool :=
  get s == before && nextHas (exec i s) fun t => get t == !before

/-! ## The well-formedness checks refuse ill-formed terms (R9, R101) -/

theorem test_spelling_byte_too_large : Spelling.wf ⟨.serByte, some 256⟩ = false := by decide
theorem test_spelling_byte_largest : Spelling.toInstr? ⟨.serByte, some 255⟩ = some (.serByte 0xFF) := by decide
theorem test_spelling_byte_missing : Spelling.wf ⟨.serByte, none⟩ = false := by decide
theorem test_spelling_level_too_large : Spelling.wf ⟨.latchSet, some 2⟩ = false := by decide
theorem test_spelling_level_missing : Spelling.wf ⟨.latchSet, none⟩ = false := by decide
theorem test_spelling_operand_not_allowed : Spelling.toInstr? ⟨.tick, some 1⟩ = none := by decide

theorem test_config_chain_bits_high : ¬ { RawConfig.d30 with chainBits := #v[0, 1, 2, 3, 4, 8] }.ChainBitsOk := by
  decide +kernel
theorem test_config_chain_bits_repeated : ¬ { RawConfig.d30 with chainBits := #v[0, 1, 2, 3, 4, 4] }.ChainBitsOk := by
  decide +kernel
theorem test_config_position_32 : ¬ { RawConfig.d30 with chanmapPos := Vector.replicate 192 32 }.PosOk := by
  decide +kernel
theorem test_config_mask_off_chain : ¬ { RawConfig.d30 with chanmapMask := Vector.replicate 192 0x40 }.MaskOk := by
  decide +kernel
theorem test_config_map_not_injective :
    ¬ { RawConfig.d30 with chanmapPos := Vector.replicate 192 0 }.MapInjective := by
  intro h
  exact absurd (h 0 6 (by decide +kernel) (by decide +kernel)) (by decide)
theorem test_config_period_off_ratio :
    ¬ { RawConfig.d30 with stepPeriod := #v[1, 2, 4, 8, 16, 32, 64, 127] }.PeriodOk := by decide +kernel
theorem test_config_base_period_zero : ¬ { RawConfig.d30 with p0 := 0, stepPeriod := Vector.replicate 8 0 }.PeriodOk := by
  decide +kernel
theorem test_config_timer_too_narrow : ¬ { RawConfig.d30 with tmrW := 7 }.PeriodOk := by decide +kernel
theorem test_config_refused : Config.ofRaw? { RawConfig.d30 with tmrW := 7 } = none :=
  dif_neg fun h => absurd h.2.2.2.2 (by decide +kernel)

/-! ## Decoding: every row's word from R96, and the rejected words of `spec/95_test_vectors.md` 2.1 -/

theorem test_decode_host :
    decode 0x0100 = .step .rxInit ∧ decode 0x0200 = .step .rxStart ∧ decode 0x0300 = .step .bamInit ∧
    decode 0x0400 = .step .gieSet ∧ decode 0x0500 = .step .bamStart ∧ decode 0x0600 = .step .loopStart ∧
    decode 0x0700 = .step .bamReset := by decide
theorem test_decode_stimuli :
    decode 0x10A5 = .step (.serByte 0xA5) ∧ decode 0x1000 = .step (.serByte 0x00) ∧
    decode 0x10FF = .step (.serByte 0xFF) ∧ decode 0x1101 = .step (.latchSet true) ∧
    decode 0x1100 = .step (.latchSet false) := by decide
theorem test_decode_timer_and_services :
    decode 0x2000 = .step .tick ∧ decode 0x3000 = .step .svcTimer ∧ decode 0x3100 = .step .svcLatch ∧
    decode 0x3200 = .step .svcSerial := by decide
theorem test_decode_consumer :
    decode 0x4000 = .step .cTest ∧ decode 0x4100 = .step .cAsm ∧ decode 0x4200 = .step .cInc ∧
    decode 0x4300 = .step .cClr := by decide
theorem test_decode_invalid :
    decode 0x1102 = .invalid (.nonzeroArg 0x1102) ∧ decode 0x2001 = .invalid (.nonzeroArg 0x2001) ∧
    decode 0x0000 = .invalid (.reservedOp 0x0000) ∧ decode 0x0800 = .invalid (.reservedOp 0x0800) ∧
    decode 0x3300 = .invalid (.reservedOp 0x3300) ∧ decode 0xFFFF = .invalid (.reservedOp 0xFFFF) := by decide

/-- No two rows of the opcode map overlap: they differ in a bit that both fix. -/
theorem test_rows_disjoint : Mnemonic.all.Pairwise fun m n => (m.matchBits ^^^ n.matchBits) &&& m.mask &&& n.mask ≠ 0 := by
  decide

theorem test_table_word : decodeTableWord 16 0x1101 = some (.latchSet true) ∧ decodeTableWord 16 0x1102 = none := by decide

theorem test_script_text :
    readScript "SER_BYTE 0xA5 ; a byte\n\n LATCH_SET 1\nBOOT\nWAIT 12".toList =
      some [.one (.serByte 0xA5), .one (.latchSet true), .boot, .wait 12] := by decide
theorem test_script_text_bad : readScript "SER_BYTE 256".toList = none ∧ readScript "TICK 1".toList = none := by decide

/-- `BOOT`'s five words and the steps of a data byte, as program P1 of `spec/95_test_vectors.md` lists their words. -/
theorem test_macro_words :
    wordsOf bootOrder = [0x0100, 0x0300, 0x0400, 0x0500, 0x0600] ∧
    wordsOf (byteMacro 0xA5 booted) =
      [0x10A5, 0x1101, 0x3100, 0x4000, 0x4100, 0x4200, 0x4300, 0x1100, 0x3100] := by decide +kernel
/-- `STEP` after boot takes one tick; with the timer stopped and no request it is not enabled (R102). -/
theorem test_macro_step : stepMacro booted = some [.tick, .svcTimer] ∧ stepMacro powerOn = none := by decide +kernel
/-- The last colour component of the last pixel is the last channel (R91). -/
theorem test_channel_index : channelIndex 7 7 .blue = 191 ∧ channelIndex 0 1 .red = 3 := by decide

/-! ## One step at a time (`spec/95_test_vectors.md` 2.2 to 2.8) -/

/-- V-HOST-2. -/
theorem test_rxInit : nextHas (exec .rxInit { powerOn with latchIn := true, latPend := true })
    (fun t => t.latIe && t.bootRx && !t.latPend && t.latchIn) = true := by decide +kernel
/-- V-HOST-3. -/
theorem test_rxInit_refused : nextHas (exec .rxInit booted) (fun t => t.refused && t.gie && t.latIe) = true := by
  decide +kernel
/-- V-HOST-4. -/
theorem test_rxStart_refused : nextHas (exec .rxStart powerOn) (fun t => t.refused && !t.latIe) = true := by decide +kernel
/-- V-INIT-1: the state and the number of records. -/
theorem test_bamInit : nextHas (exec .bamInit powerOn) (fun t =>
    t.tmrCnt == 1 && t.tmrReload == 1 && t.lines == ⟨0x00, false, false, false⟩ && t.bootBam &&
    t.busTrace.length == 171) = true := by decide +kernel
/-- V-INIT-2. -/
theorem test_bamInit_again : nextHas (exec .bamInit { powerOn with
    bootBam := true, mem := [(261, 0x3F)], frontSel := .b, bamStep := 6, tmrPend := true })
    (fun t => t.mem == [] && t.frontSel == .a && t.bamStep == 0 && !t.tmrPend) = true := by decide +kernel
/-- V-HOST-5, V-HOST-6. -/
theorem test_gieSet :
    nextHas (exec .gieSet { powerOn with bootRx := true }) (fun t => t.refused && !t.gie) = true ∧
    nextHas (exec .gieSet { powerOn with bootRx := true, bootBam := true }) (fun t => t.gie && !t.refused) = true := by
  decide +kernel
/-- V-START-2, V-START-3. -/
theorem test_bamStart :
    nextHas (exec .bamStart powerOn) (fun t => t.refused && !t.tmrRun) = true ∧
    nextHas (exec .bamStart { booted with tmrCnt := 3 }) (fun t => t.tmrRun && t.tmrCnt == 3) = true := by decide +kernel
/-- V-HOST-7. -/
theorem test_loopStart_refused : nextHas (exec .loopStart { powerOn with bootBam := true })
    (fun t => t.refused && !t.cEn) = true := by decide +kernel
/-- V-RST-2. -/
theorem test_bamReset : nextHas (exec .bamReset { booted with
    bamStep := 6, tmrCnt := 9, tmrReload := 32, tmrPend := true })
    (fun t => t.bamStep == 0 && !t.tmrRun && t.tmrCnt == 1 && t.tmrReload == 1 && t.tmrPend) = true := by decide +kernel
/-- V-HOST-8. -/
theorem test_serByte : nextHas (exec (.serByte 0x22) { booted with serFlag := true, serData := 0x11 })
    (fun t => t.serData == 0x22 && t.serFlag) = true := by decide +kernel
/-- V-HOST-9. -/
theorem test_latchSet_same_level : nextHas (exec (.latchSet true) { booted with latchIn := true })
    (fun t => t.latchIn && !t.latPend) = true := by decide +kernel
/-- V-HOST-10: two edges, one request. -/
theorem test_latchSet_merge : nextHas (runSteps [.latchSet true, .latchSet false] booted)
    (fun t => !t.latchIn && t.latPend) = true := by decide +kernel
/-- V-TICK-2, V-TICK-4. -/
theorem test_tick :
    nextHas (exec .tick { booted with tmrCnt := 2, tmrReload := 8 }) (fun t => t.tmrCnt == 1 && !t.tmrPend) = true ∧
    nextHas (exec .tick { booted with tmrCnt := 1, tmrReload := 8, tmrPend := true })
      (fun t => t.tmrCnt == 8 && t.tmrPend) = true := by decide +kernel
/-- V-TICK-6. -/
theorem test_tick_not_enabled : refusedAs (exec .tick powerOn) .timerStopped = true := by decide +kernel
/-- V-TMR-2: plane 4 of buffer B. -/
theorem test_svcTimer : nextHas (exec .svcTimer { booted with
    tmrPend := true, bamStep := 3, frontSel := .b, mem := [(384, 0x21), (415, 0x07)] })
    (fun t => t.tmrCnt == 8 && t.tmrReload == 8 && t.bamStep == 4 && t.lines.data == 0x07 && !t.lines.lat &&
      t.busTrace[4]? == some (.data 0x21) && t.busTrace.length == 164) = true := by decide +kernel
/-- V-TMR-3, and V-OBS-2's stages for plane 0: position 0 at stage 31 of chain 0, position 31 at stage 0 of chain 5. -/
theorem test_svcTimer_wraps : nextHas (exec .svcTimer { booted with
    tmrPend := true, bamStep := 7, mem := [(0, 0x01), (31, 0x20)] })
    (fun t => t.tmrCnt == 128 && t.bamStep == 0 && t.chips.sr == #v[0x80000000, 0, 0, 0, 0, 1] &&
      t.chips.out == darkChips.out) = true := by decide +kernel
/-- V-LAT-3. -/
theorem test_svcLatch_rising : nextHas (exec .svcLatch { booted with
    latPend := true, latchIn := true, serFlag := true, serData := 0x77, rxValid := true, rxByte := 0x66 })
    (fun t => t.rxByte == 0x77 && t.rxValid && !t.serFlag && t.serIe && !t.latPend) = true := by decide +kernel
/-- V-LAT-4. -/
theorem test_svcLatch_falling : nextHas (exec .svcLatch { booted with
    latPend := true, serIe := true, cmdState := .awaitSecond, serFlag := true })
    (fun t => !t.serIe && t.cmdState == .awaitFirst && t.serFlag) = true := by decide +kernel
/-- V-SER-1. -/
theorem test_svcSerial_first : nextHas (exec .svcSerial { booted with
    serIe := true, serFlag := true, rxCount := 192, rxByte := 0x42, bamStep := 5 })
    (fun t => !t.serFlag && t.rxByte == 0 && t.rxCount == 0 && t.cmdState == .awaitSecond && t.bamStep == 5) = true := by
  decide +kernel
/-- V-SER-2. -/
theorem test_svcSerial_second : nextHas (exec .svcSerial { booted with
    serIe := true, serFlag := true, cmdState := .awaitSecond, bamStep := 5, tmrCnt := 13, tmrReload := 16 })
    (fun t => t.cmdState == .awaitSecond && t.bamStep == 0 && t.tmrCnt == 1 && t.tmrReload == 1 && t.tmrRun) = true := by
  decide +kernel
/-- V-CON-2. -/
theorem test_cTest : nextHas (exec .cTest { booted with rxValid := true, rxByte := 0x5A, rxCount := 7 })
    (fun t => t.cVal == 0x5A && t.cCh == 7 && t.cPhase == .asm) = true := by decide +kernel
/-- V-CON-3. -/
theorem test_cTest_swap : nextHas (exec .cTest { booted with rxValid := true, rxCount := 192 })
    (fun t => t.frontSel == .b && t.rxCount == 0 && t.rxValid && t.cPhase == .test) = true := by decide +kernel
/-- V-ASM-1. -/
theorem test_cAsm : nextHas (exec .cAsm { booted with cPhase := .asm, cVal := 0xA5, cCh := 0 })
    (fun t => t.mem == [(256, 0x01), (320, 0x01), (416, 0x01), (480, 0x01)] && t.cPhase == .inc) = true := by
  decide +kernel
/-- V-ASM-6: the back buffer is A. -/
theorem test_cAsm_back_is_a : nextHas (exec .cAsm { booted with cPhase := .asm, cVal := 0x01, cCh := 6, frontSel := .b })
    (fun t => t.mem == [(1, 0x01)]) = true := by decide +kernel
/-- V-CON-5, V-CON-6. -/
theorem test_cInc :
    nextHas (exec .cInc { booted with cPhase := .inc, rxCount := 191 }) (fun t => t.rxCount == 192) = true ∧
    nextHas (exec .cInc { booted with cPhase := .inc, rxCount := 0 }) (fun t => t.rxCount == 1) = true := by
  decide +kernel
/-- V-CON-7. -/
theorem test_cClr : nextHas (exec .cClr { booted with cPhase := .clr, rxValid := true })
    (fun t => !t.rxValid && t.cPhase == .test) = true := by decide +kernel
/-- V-CON-8, V-TMR-5, V-LAT-5, V-SER-4. -/
theorem test_not_enabled :
    refusedAs (exec .cTest powerOn) (.consumerNotEnabled .test) = true ∧
    refusedAs (exec .svcTimer { powerOn with tmrPend := true }) (.serviceNotEnabled .timer) = true ∧
    refusedAs (exec .svcLatch { booted with latIe := false, latPend := true }) (.serviceNotEnabled .latch) = true ∧
    refusedAs (exec .svcSerial { booted with serFlag := true }) (.serviceNotEnabled .serial) = true := by decide +kernel

theorem test_fetch : nextHas (step { powerOn.withFetchWord 16 0x10A5 with mem := [] })
    (fun t => t.serData == 0xA5 && t.serFlag && t.script == []) = true := by decide +kernel
theorem test_script_end : refusedAs (step powerOn) .scriptEnd = true := by decide +kernel

/-! ## Witnesses: for each statement with hypotheses, a state and operands that meet all of them -/

theorem witness_EncodeOfDecode : decode 0x10A5 = .step (.serByte 0xA5) := by decide

theorem witness_StepRunsDecodedStep :
    let s := { booted with script := [0x1101, 0x2000] }
    s.script = 0x1101 :: [0x2000] ∧ (∀ v ∈ [(0x2000 : EventWord)], ∃ j : Instr, decode v = .step j) ∧
      decode 0x1101 = .step (.latchSet true) ∧ (Instr.latchSet true).wf = true :=
  ⟨rfl, fun v hv => ⟨.tick, by rw [List.mem_singleton.1 hv]; decide⟩, by decide, by decide⟩

theorem witness_InvalidScriptNeverRuns :
    let s := { booted with script := [0x2000, 0x0800] }
    (0x0800 : EventWord) ∈ s.script ∧ ∀ i : Instr, decode 0x0800 ≠ .step i :=
  ⟨by decide, fun i h => by rw [show decode 0x0800 = .invalid (.reservedOp 0x0800) by decide] at h; cases h⟩

theorem witness_PowerOnReset : Instr.tick.agent ≠ .host ∧ Instr.svcSerial.agent ≠ .host ∧ Instr.cClr.agent ≠ .host := by
  decide

theorem witness_StateAfterBoot : 0 < Config.d30.period 0 := by decide +kernel

theorem witness_ReceptionEntryPoints : powerOn.gie = false ∧ booted.bootRx = true := by decide

theorem witness_GlobalEntryPoints : booted.bootRx = true ∧ booted.bootBam = true := by decide

theorem witness_BamStartAndReset : booted.bootBam = true := by decide

/-- For `BamInitEffect` and `BamInitTwice`: a BUF with its first and its last byte listed. -/
theorem witness_BamInit :
    let s := { powerOn with mem := [(0, 0x01), (511, 0x20)] }
    s.gie = false ∧ s.mem.wf := by decide

theorem witness_UpstreamStimuli : true ≠ booted.latchIn ∧ false = booted.latchIn := by decide

theorem witness_HostRefusals :
    refusalReason .rxInit booted = some .initWhileServicesEnabled ∧
    refusalReason .bamInit booted = some .initWhileServicesEnabled ∧
    refusalReason .rxStart powerOn = some .startBeforeInit ∧ refusalReason .bamStart powerOn = some .startBeforeInit ∧
    refusalReason .bamReset powerOn = some .resetBeforeInit ∧
    refusalReason .gieSet { powerOn with bootRx := true } = some .enableBeforeInit ∧
    refusalReason .loopStart { powerOn with bootBam := true } = some .loopBeforeInit ∧
    refusalReason .rxInit powerOn = none ∧ refusalReason .tick booted = none ∧
    nextHas (exec .tick booted) (fun _ => true) = true ∧ Instr.tick.agent ≠ .host ∧
    (Instr.serByte 0).mnemonic = .serByte ∧ (Instr.latchSet true).mnemonic = .latchSet := by decide +kernel

theorem witness_RepeatedCallsChangeNothing :
    Instr.rxStart ∈ [Instr.rxStart, .gieSet, .loopStart, .bamStart] ∧
    Instr.bamStart ∈ [Instr.rxStart, .gieSet, .loopStart, .bamStart] := by decide

/-- Counts 0, 1 and 2: the clauses meet between 1 and 2. -/
theorem witness_TickEffect :
    booted.tmrRun = true ∧ { booted with tmrCnt := 0 }.tmrCnt ≤ 1 ∧ booted.tmrCnt ≤ 1 ∧
    1 < { booted with tmrCnt := 2 }.tmrCnt := by decide

/-- A service that reads step 1 and the two ticks of its period; after one tick the request is not raised yet. -/
theorem witness_NextExpiryAfterOnePeriod :
    nextHas (exec .svcTimer { booted with tmrPend := true, bamStep := 1 }) (fun t =>
      nextHas (runSteps [.tick, .cTest] t) (fun u => !u.tmrPend) &&
      runAll (fun i s => !resetsStep i s) [.tick, .cTest] t && !List.contains [.tick, .cTest] Instr.svcTimer &&
      nextHas (runSteps [.tick, .cTest, .tick] t) (fun u => u.tmrPend) &&
      runAll (fun i s => !resetsStep i s) [.tick, .cTest, .tick] t) = true := by decide +kernel

theorem witness_TimerServiceEffect :
    { booted with tmrPend := true }.gie = true ∧ { booted with tmrPend := true }.tmrPend = true := by decide

/-- Two services with a tick between them, the first one wrapping the counter. -/
theorem witness_StepCounterCycles :
    let s := { booted with tmrPend := true, bamStep := 7, tmrCnt := 1, tmrReload := 1 }
    nextHas (runSteps [.svcTimer, .bamStart] s) (fun _ => true) = true ∧
      runAll (fun i s => !resetsStep i s) [.svcTimer, .bamStart] s = true ∧
      stepReads [.svcTimer, .bamStart] s = [7] := by decide +kernel

/-- Channel 0 on chain 0 and channel 191 on chain 5. -/
theorem witness_TransmissionLandsPlane :
    booted.lines.clk = false ∧ booted.lines.lat = false ∧
    booted.cfg.mask 0 = (1 : Byte) <<< booted.cfg.chainBit 0 ∧
    booted.cfg.mask 191 = (1 : Byte) <<< booted.cfg.chainBit 5 := by decide +kernel

/-- A booted state about to be serviced for step 0, with channel 0 and channel 191 on in plane 0 and that plane in the
shift registers. -/
def loaded : State := { booted with
  tmrPend := true, mem := [(0, 0x01), (31, 0x20), (63, 0x20)],
  chips := ⟨#v[0x80000000, 0, 0, 0, 0, 1], darkChips.out⟩ }

/-- For `ServiceShowsItsPlane` and `CycleShowsEveryValue`. -/
theorem witness_HoldsPlane :
    loaded.gie = true ∧ loaded.tmrPend = true ∧ loaded.bamStep = 0 ∧ loaded.lines.clk = false ∧
      loaded.lines.lat = false ∧ loaded.lines.blank = false ∧ HoldsPlane loaded loaded.chips.sr loaded.bamStep ∧
      HoldsPlane loaded loaded.chips.sr 0 := by
  refine ⟨rfl, rfl, rfl, rfl, rfl, rfl, ?_, ?_⟩ <;> unfold HoldsPlane <;> decide +kernel

/-- For `AssembleReadsBack`, `AssembleChangesOneLane` and `AssembleTwiceIsOnce`: channels 0, 191 and 192, planes 0 and 7. -/
theorem witness_Assemble :
    loaded.mem.wf ∧ (0 : Byte).toNat < 192 ∧ (191 : Byte).toNat < 192 ∧ 192 ≤ (192 : Byte).toNat ∧ 0 < 8 ∧ 7 < 8 ∧
      ((loaded.assemble 0x80 191).mem.read 511).getLsbD 5 ≠ (loaded.mem.read 511).getLsbD 5 ∧ 255 < 256 := by
  decide +kernel

theorem witness_FrameRoundTrip :
    loaded.mem.wf ∧ ((List.finRange 192).reverse).Perm (List.finRange 192) := ⟨by decide, List.reverse_perm _⟩

theorem witness_LatchServiceEffect :
    let s := { booted with latPend := true, latchIn := true, serFlag := true }
    s.gie = true ∧ s.latIe = true ∧ s.latPend = true ∧ s.latchIn = true ∧ s.serFlag = true ∧
      { s with serFlag := false }.serFlag = false ∧ { s with latchIn := false }.latchIn = false := by decide

theorem witness_SerialServiceEffect :
    let s := { booted with serIe := true, serFlag := true }
    s.gie = true ∧ s.serIe = true ∧ s.serFlag = true ∧ s.cmdState = .awaitFirst ∧
      { s with cmdState := .awaitSecond }.cmdState = .awaitSecond := by decide

/-- Two serviced transfers with a transfer and a tick between the services. -/
theorem witness_CommandDisambiguation :
    let s := { booted with serIe := true, serFlag := true, latchIn := true }
    s.cmdState = .awaitFirst ∧
      nextHas (exec .svcSerial s) (fun t =>
        nextHas (runSteps [.serByte 0, .tick] t) (fun u => nextHas (exec .svcSerial u) fun v => v.bamStep == 0) &&
        runAll (fun i s => !(i == .svcLatch && !s.latchIn)) [.serByte 0, .tick] t &&
        !List.contains [.serByte 0, .tick] Instr.svcSerial) = true := by decide +kernel

/-- A captured byte, then the falling edge and its service. -/
theorem witness_CapturedByteIsNoCommand :
    let s := { booted with latPend := true, latchIn := true, serFlag := true }
    s.latchIn = true ∧ s.serFlag = true ∧
      nextHas (exec .svcLatch s) (fun t => nextHas (runSteps [.latchSet false, .svcLatch] t) fun _ => true) = true ∧
      ∀ v : Byte, Instr.serByte v ∉ [Instr.latchSet false, .svcLatch] := by
  refine ⟨rfl, rfl, by decide +kernel, by simp⟩

/-- Counts 191, 192 and 255: the clauses meet between 191 and 192. -/
theorem witness_ConsumerTestEffect :
    let s := { booted with rxValid := true, rxCount := 191 }
    s.cEn = true ∧ s.cPhase = .test ∧ booted.rxValid = false ∧ s.rxValid = true ∧ s.rxCount.toNat < 192 ∧
      192 ≤ { s with rxCount := 192 }.rxCount.toNat ∧ 192 ≤ { s with rxCount := 255 }.rxCount.toNat := by decide

/-- Channels 0, 191 and 192, planes 0 and 7, and an address that is none of the channel's. -/
theorem witness_ConsumerAssembleEffect :
    let s := { booted with cPhase := .asm, cVal := 0x5A, cCh := 191 }
    s.cEn = true ∧ s.cPhase = .asm ∧ s.mem.wf ∧ s.cCh.toNat < 192 ∧ { s with cCh := 0 }.cCh.toNat < 192 ∧
      192 ≤ { s with cCh := 192 }.cCh.toNat ∧ 7 < 8 ∧
      ∀ p < 8, (0 : BufAddr) ≠ assembleAddr s.frontSel.other p (s.cfg.pos 191) := by decide +kernel

theorem witness_ConsumerCountAndClear :
    booted.cEn = true ∧ { booted with cPhase := .inc }.cPhase = .inc ∧ { booted with cPhase := .clr }.cPhase = .clr := by
  decide

/-- Counters 0 and 191. -/
theorem witness_DataByteIsAssembled :
    booted.rxCount.toNat < 192 ∧ Idle booted ∧ { booted with rxCount := 191 }.rxCount.toNat < 192 ∧
      Idle { booted with rxCount := 191 } := by decide

theorem witness_NextByteSwapsFullFrame :
    Idle { booted with rxCount := 192 } ∧ { booted with rxCount := 192 }.rxCount = 192 := by decide

theorem witness_ReceivedFrameIsShown : Idle booted ∧ booted.rxCount = 0 ∧ booted.mem.wf := by decide

/-- Counters 0 and 191. -/
theorem witness_ClearDuringCallLeavesOne :
    let s := { booted with serIe := true, serFlag := true, rxValid := true, rxCount := 191 }
    s.rxCount.toNat < 192 ∧ { s with rxCount := 0 }.rxCount.toNat < 192 ∧ s.gie = true ∧ s.serIe = true ∧
      s.serFlag = true ∧ s.cEn = true ∧ s.cPhase = .test ∧ s.rxValid = true := by decide

theorem witness_PendingRequestSurvivesReset :
    loaded.gie = true ∧ loaded.bootBam = true ∧ loaded.tmrPend = true := by decide

theorem witness_ShortPulseLosesItsByte :
    let s := { booted with serFlag := true }
    s.gie = true ∧ s.latIe = true ∧ s.latchIn = false ∧ s.serFlag = true := by decide

/-- No service can be taken from power-on. -/
theorem witness_ServiceDispatch : ¬ ∃ t : State, exec (Service.instr .timer) powerOn = .next t := by
  rintro ⟨t, h⟩
  cases h

theorem witness_EnabledStepsAreTaken :
    Instr.bamInit.agent = .host ∧ (Instr.latchSet true).agent = .host ∧ powerOn.tmrRun = false ∧
      (Instr.cInc, Phase.inc) ∈ [(Instr.cTest, Phase.test), (.cAsm, .asm), (.cInc, .inc), (.cClr, .clr)] ∧
      ¬ (booted.cEn = true ∧ booted.cPhase = .inc) := by decide

/-- The latch and the timer service both enabled, the order naming the latch first; and no service enabled. -/
theorem witness_OrderedServicesRunFirst :
    let s := { booted with tmrPend := true, latPend := true }
    ServiceOrder [.serial, .latch, .timer] ∧ s.serviceEnabled .latch = true ∧
      (∀ other : Service, [Service.serial, .latch, .timer].idxOf other < [Service.serial, .latch, .timer].idxOf .latch →
        s.serviceEnabled other = false) ∧
      ∀ svc : Service, booted.serviceEnabled svc = false := by
  refine ⟨by unfold ServiceOrder; decide, rfl, fun other => ?_, fun svc => ?_⟩
  · cases other <;> decide
  · cases svc <;> rfl

/-- Each register, line and bookkeeping bit is changed by some step. -/
theorem witness_RegisterWriters :
    changes State.bamStep .svcTimer loaded = true ∧
    changes State.frontSel .cTest { booted with rxValid := true, rxCount := 192 } = true ∧
    changes State.tmrRun .bamReset booted = true ∧ changes State.tmrCnt .tick { booted with tmrCnt := 2 } = true ∧
    changes State.tmrReload .bamReset { booted with tmrReload := 64 } = true ∧
    changes State.gie .gieSet { booted with gie := false } = true ∧ changes State.latchIn (.latchSet true) booted = true ∧
    changes State.latIe .rxInit powerOn = true ∧ changes State.serData (.serByte 1) booted = true ∧
    changes State.serIe .svcLatch { booted with latPend := true, latchIn := true } = true ∧
    changes State.rxByte .svcLatch { booted with latPend := true, latchIn := true, serFlag := true, serData := 1 } = true ∧
    changes State.rxCount .cInc { booted with cPhase := .inc } = true ∧
    changes State.cEn .loopStart { booted with cEn := false } = true ∧
    changes State.cPhase .cInc { booted with cPhase := .inc } = true ∧
    changes State.cVal .cTest { booted with rxValid := true, rxByte := 1, rxCount := 1 } = true ∧
    changes State.cCh .cTest { booted with rxValid := true, rxByte := 1, rxCount := 1 } = true ∧
    changes State.lines .svcTimer loaded = true ∧ changes State.busTrace .svcTimer loaded = true ∧
    changes State.chips .svcTimer loaded = true ∧ changes State.bootRx .rxInit powerOn = true ∧
    changes State.bootBam .bamInit powerOn = true ∧ changes State.refused .rxInit booted = true := by decide +kernel

/-- Each status flag is set by some step and cleared by some step. -/
theorem witness_FlagSettersAndClearers :
    flips State.tmrPend false .tick booted = true ∧ flips State.tmrPend true .svcTimer loaded = true ∧
    flips State.latPend false (.latchSet true) booted = true ∧
    flips State.latPend true .svcLatch { booted with latPend := true } = true ∧
    flips State.serFlag false (.serByte 0) booted = true ∧
    flips State.serFlag true .svcLatch { booted with latPend := true, latchIn := true, serFlag := true } = true ∧
    flips State.rxValid false .svcLatch { booted with latPend := true, latchIn := true, serFlag := true } = true ∧
    flips State.rxValid true .cClr { booted with cPhase := .clr, rxValid := true } = true ∧
    flips (fun s => s.cmdState == .awaitSecond) false .svcSerial { booted with serIe := true, serFlag := true } = true ∧
    flips (fun s => s.cmdState == .awaitSecond) true .svcLatch
      { booted with latPend := true, cmdState := .awaitSecond } = true := by decide +kernel

theorem witness_NeverTakenBack :
    let s := { booted with refused := true, script := [0x2000] }
    nextHas (step s) (fun _ => true) = true ∧ s.gie = true ∧ s.latIe = true ∧ s.cEn = true ∧ s.bootRx = true ∧
      s.bootBam = true ∧ s.refused = true := by decide +kernel

theorem witness_ConfigurationIsConstant :
    nextHas (step { booted with script := [0x2000] }) (fun _ => true) = true := by decide +kernel

/-- `BAM_INIT` changes a listed byte of the front buffer, `C_ASM` a byte of the back buffer. -/
theorem witness_BufferWriters :
    changes (fun s => s.mem.read 0) .bamInit { loaded with gie := false } = true ∧
    changes (fun s => s.mem.read 511) .cAsm { booted with cPhase := .asm, cVal := 0xFF, cCh := 191 } = true := by
  decide +kernel

theorem witness_StepKeepsInvariant :
    Inv { booted with script := [0x2000] } ∧ nextHas (step { booted with script := [0x2000] }) (fun _ => true) = true := by
  refine ⟨⟨by decide, by decide, by decide +kernel, by decide, by decide, fun a => ?_⟩, by decide +kernel⟩
  show Memory.read [] a &&& ~~~Config.d30.chainMask = 0
  rw [Memory.read_nil]
  exact BitVec.zero_and

theorem witness_StepKeepsObserver :
    ObserverAgrees { powerOn with script := [0x0300] } ∧
      nextHas (step { powerOn with script := [0x0300] }) (fun _ => true) = true :=
  ⟨⟨darkChips, rfl⟩, by decide +kernel⟩

theorem witness_StaleSnapshotIsUnread :
    let s := { booted with rxValid := true, rxByte := 1 }
    s.cPhase ≠ .asm ∧ nextHas (exec .cTest s) (fun t => t.cPhase == .asm) = true := by decide +kernel

/-- Any purpose of a transfer and of an edge is a case; the counter at both ends of its range. -/
theorem witness_UpstreamDuties :
    Idle booted ∧ booted.rxCount.toNat < 192 ∧ Idle { booted with rxCount := 191 } ∧
      { booted with rxCount := 191 }.rxCount.toNat < 192 := by decide

/-- For `ChipsOnlyObserve` and `TimerServiceDuration`. -/
theorem witness_TimerServiceRuns : nextHas (exec .svcTimer loaded) (fun _ => true) = true := by decide +kernel

end Sys2Proof.Tests
end

section
/-! `Swap` of the BAM engine (R135, R137). -/

open Sys2Proof Sys2Proof.Machine

/-- Settles O25: exchanging the roles twice restores them, and the two roles differ. -/
theorem swapIsInvolution : Obligations.SwapIsInvolution := by
  intro s
  have twice : s.swap.swap = s := by simp [State.swap]
  have roles_differ : s.swap.frontSel ≠ s.frontSel := by simp [Buffer.other_ne]
  exact ⟨twice, State.swap_mem s, State.swap_frontSel s, roles_differ⟩

end

section
/-! The step counter `bam_step` over a run (R23, R128): what each step body makes of it, what a step makes of it, and so what
the timer services of a run read. -/

namespace Sys2Proof.Machine

variable {s t : State}

/-! ## The counter under the body of each step -/

@[simp] theorem State.bamInit_bamStep (s : State) : s.bamInit.bamStep = 0 := by rw [bamInit_eq]

@[simp] theorem State.timerService_bamStep (s : State) : s.timerService.bamStep = s.bamStep + 1 := by
  rw [timerService_eq]

@[simp] theorem State.tick_bamStep (s : State) : s.tick.bamStep = s.bamStep := by
  unfold State.tick
  split <;> simp

@[simp] theorem State.latchService_bamStep (s : State) : s.latchService.bamStep = s.bamStep := by
  simp only [State.latchService, State.leaveService]
  split
  · split <;> simp
  · simp

@[simp] theorem State.testPhase_bamStep (s : State) : s.testPhase.bamStep = s.bamStep := by
  unfold State.testPhase
  split
  · rfl
  · split <;> rfl

@[simp] theorem State.asmPhase_bamStep (s : State) : s.asmPhase.bamStep = s.bamStep := State.assemble_bamStep ..

/-- The serial service resets the counter with a second command only (R184). -/
theorem State.serialService_bamStep (s : State) :
    s.serialService.bamStep = if s.cmdState == .awaitSecond then 0 else s.bamStep := by
  cases h : s.cmdState <;> simp [State.serialService, State.leaveService, h]

/-! ## The counter under a step -/

/-- What any step makes of the counter: a reset makes it 0, any other timer service counts, nothing else writes it (R23). -/
theorem exec_bamStep {i : Instr} (h : exec i s = .next t) :
    t.bamStep = if resetsStep i s then 0 else if i = .svcTimer then s.bamStep + 1 else s.bamStep := by
  cases i with
  | rxInit => obtain ⟨-, rfl⟩ | ⟨-, rfl⟩ := exec_rxInit.1 h <;> rfl
  | rxStart => obtain ⟨-, rfl⟩ | ⟨-, rfl⟩ := exec_rxStart.1 h <;> rfl
  | bamInit => obtain ⟨hg, rfl⟩ | ⟨hg, rfl⟩ := exec_bamInit.1 h <;> simp [resetsStep, hg]
  | gieSet => obtain ⟨-, rfl⟩ | ⟨-, rfl⟩ := exec_gieSet.1 h <;> rfl
  | bamStart => obtain ⟨-, rfl⟩ | ⟨-, rfl⟩ := exec_bamStart.1 h <;> rfl
  | loopStart => obtain ⟨-, rfl⟩ | ⟨-, rfl⟩ := exec_loopStart.1 h <;> rfl
  | bamReset => obtain ⟨hb, rfl⟩ | ⟨hb, rfl⟩ := exec_bamReset.1 h <;> simp [resetsStep, hb]
  | serByte v => obtain rfl := exec_serByte.1 h; rfl
  | latchSet l => obtain ⟨-, rfl⟩ | ⟨-, rfl⟩ := exec_latchSet.1 h <;> rfl
  | tick => obtain ⟨-, rfl⟩ := exec_tick.1 h; exact s.tick_bamStep
  | svcTimer => obtain ⟨-, rfl⟩ := exec_svcTimer.1 h; exact s.timerService_bamStep
  | svcLatch => obtain ⟨-, rfl⟩ := exec_svcLatch.1 h; exact s.latchService_bamStep
  | svcSerial => obtain ⟨-, rfl⟩ := exec_svcSerial.1 h; exact s.serialService_bamStep
  | cTest => obtain ⟨-, rfl⟩ := exec_cTest.1 h; exact s.testPhase_bamStep
  | cAsm => obtain ⟨-, rfl⟩ := exec_cAsm.1 h; exact s.asmPhase_bamStep
  | cInc => obtain ⟨-, rfl⟩ := exec_cInc.1 h; rfl
  | cClr => obtain ⟨-, rfl⟩ := exec_cClr.1 h; rfl

/-! ## The counter along a run -/

/-- A run that is taken to its end takes its first step, and the rest from there. -/
theorem runSteps_cons {i : Instr} {is : List Instr} (h : runSteps (i :: is) s = .next t) :
    ∃ u, exec i s = .next u ∧ runSteps is u = .next t := by
  unfold runSteps at h
  split at h
  next u hu => exact ⟨u, hu, h⟩
  all_goals cases h

/-- The reads of a run whose first step is taken. -/
theorem stepReads_next {i : Instr} {is : List Instr} (h : exec i s = .next t) :
    stepReads (i :: is) s = (if i = .svcTimer then [s.bamStep] else []) ++ stepReads is t := by
  simp only [stepReads, h]

/-- The first `n` values of the counter from `b` on, counting modulo 8. -/
def consecutiveSteps (b : BitVec 3) (n : Nat) : List (BitVec 3) := (List.range n).map fun k => b + BitVec.ofNat 3 k

theorem consecutiveSteps_succ (b : BitVec 3) (n : Nat) :
    consecutiveSteps b (n + 1) = b :: consecutiveSteps (b + 1) n := by
  have shift (k : Nat) : b + BitVec.ofNat 3 (k + 1) = b + 1 + BitVec.ofNat 3 k := by bv_omega
  have first : b + BitVec.ofNat 3 0 = b := BitVec.add_zero b
  rw [consecutiveSteps, List.range_succ_eq_map, List.map_cons, List.map_map, first]
  exact congrArg _ (List.map_congr_left fun k _ => shift k)

/-- Without a reset on the way, the timer services of a run read consecutive values of the counter (R128). -/
theorem stepReads_eq_consecutiveSteps {run : List Instr} (hrun : runSteps run s = .next t)
    (hok : runAll (fun i s => !resetsStep i s) run s = true) :
    stepReads run s = consecutiveSteps s.bamStep (run.count .svcTimer) := by
  induction run generalizing s with
  | nil => rfl
  | cons i is ih =>
    obtain ⟨u, hu, hrest⟩ := runSteps_cons hrun
    rw [runAll_next hu, Bool.and_eq_true, Bool.not_eq_true'] at hok
    obtain ⟨hkept, hok⟩ := hok
    have hstep := exec_bamStep hu
    rw [stepReads_next hu, ih hrest hok, hstep]
    by_cases hi : i = .svcTimer
    · simp [hi, resetsStep, consecutiveSteps_succ]
    · simp [hi, hkept]

/-- A timer service that is taken advances the counter by one modulo 8 (R128). -/
theorem exec_svcTimer_bamStep (h : exec .svcTimer s = .next t) : t.bamStep.toNat = (s.bamStep.toNat + 1) % 8 := by
  obtain ⟨-, rfl⟩ := exec_svcTimer.1 h
  simp [BitVec.toNat_add]

/-- Eight consecutive values are all 8 of them, whichever comes first. -/
theorem consecutiveSteps_eight_perm (b : BitVec 3) :
    (consecutiveSteps b 8).Perm ((List.range 8).map (BitVec.ofNat 3)) := by
  revert b
  decide

end Sys2Proof.Machine

open Sys2Proof Sys2Proof.Machine

/-- Settles O21, by induction on the run for the values read, over the one step in which the counter moves. -/
theorem stepCounterCycles : Obligations.StepCounterCycles :=
  ⟨fun _ _ => exec_svcTimer_bamStep,
    fun _ _ _ => stepReads_eq_consecutiveSteps,
    consecutiveSteps_eight_perm, by decide⟩

end

section
/-! The decoder against the opcode map (R95 to R99): one inversion lemma says which words decode to a step, and the row a
word falls under is read off its two fields. -/

namespace Sys2Proof

/-! ## Words that spell a step -/

/-- The decoder on a word given by its two fields (R98). -/
theorem decode_append (op arg : Byte) : decode (op ++ arg) =
    if op = 0x10 then .step (.serByte arg)
    else if op = 0x11 then
      if arg.extractLsb' 1 7 = 0 then .step (.latchSet (arg.getLsbD 0)) else .invalid (.nonzeroArg (op ++ arg))
    else
      (plainOp op).elim (.invalid (.reservedOp (op ++ arg))) fun i =>
        if arg = 0 then .step i else .invalid (.nonzeroArg (op ++ arg)) := by
  unfold decode
  simp only [opOf_append, argOf_append]
  cases plainOp op <;> rfl

/-- The operand-free rows, listed by their `op` (R96). -/
theorem plainOp_eq_some_iff {op : Byte} {i : Instr} :
    plainOp op = some i ↔ i.mnemonic.plain = some i ∧ i.mnemonic.op = op := by
  constructor
  · intro h
    unfold plainOp at h
    split at h <;> simp only [Option.some.injEq, reduceCtorEq] at h
    all_goals next hop => subst h; exact ⟨rfl, BitVec.eq_of_toNat_eq hop.symm⟩
  · rintro ⟨hi, rfl⟩
    cases i with
    | serByte v => cases hi
    | latchSet l => cases hi
    | _ => rfl

/-- A byte whose upper 7 bits are 0 is the byte of its lowest bit (R97). -/
theorem ofBool_getLsbD_zero {arg : Byte} (h : arg.extractLsb' 1 7 = 0) :
    (BitVec.ofBool (arg.getLsbD 0)).setWidth 8 = arg := by
  revert arg
  decide

/-- A row without operand has `arg = 0` (R96). -/
theorem arg_of_plain {i : Instr} (h : i.mnemonic.plain = some i) : i.arg = 0 := by
  cases i with
  | serByte v => cases h
  | latchSet l => cases h
  | _ => rfl

/-- Every step's event word decodes to the step (R95 to R98). -/
theorem decode_encode (i : Instr) : decode (encode i) = .step i := by
  rw [encode, decode_append]
  cases i with
  | serByte v => rfl
  | latchSet l => cases l <;> rfl
  | _ => rfl

/-- The word of a step is made of the row's `op` and the step's `arg`, so a word that decodes to a step is its word. -/
theorem encode_of_decode {w : EventWord} {i : Instr} (h : decode w = .step i) : encode i = w := by
  rw [← opOf_append_argOf w] at h ⊢
  generalize opOf w = op at h ⊢
  generalize argOf w = arg at h ⊢
  rw [decode_append] at h
  split at h
  next hop => cases h; rw [hop]; rfl
  next =>
    split at h
    next hop =>
      split at h
      next harg => cases h; rw [encode, Instr.arg, ofBool_getLsbD_zero harg, hop]; rfl
      next => cases h
    next =>
      cases hj : plainOp op with
      | none => rw [hj] at h; cases h
      | some j =>
        rw [hj, Option.elim_some] at h
        split at h
        next harg =>
          cases h
          obtain ⟨hplain, hop⟩ := plainOp_eq_some_iff.1 hj
          rw [encode, hop, arg_of_plain hplain, harg]
        next => cases h

/-- Decoder and encoder are inverse to each other (R95 to R98). -/
theorem decode_eq_step_iff {w : EventWord} {i : Instr} : decode w = .step i ↔ encode i = w :=
  ⟨encode_of_decode, fun h => h ▸ decode_encode i⟩

/-- Every step, spelled out, is well-formed (R101). -/
theorem wf_of_instr (i : Instr) : i.wf = true := by
  cases i with
  | serByte v => exact (Laws.SpellingWf.serByte v).1
  | latchSet l => exact (Laws.SpellingWf.latchSet l).1
  | _ => rfl

/-! ## The rows of the opcode map -/

/-- The operand bits a row fixes to 0 (R96). -/
def Mnemonic.argMask : Mnemonic → Byte
  | .serByte => 0x00
  | .latchSet => 0xFE
  | _ => 0xFF

/-- A row's mask fixes all of `op` and the row's part of `arg`. -/
theorem Mnemonic.mask_eq (m : Mnemonic) : m.mask = (0xFF : Byte) ++ m.argMask := by
  cases m <;> rfl

/-- A word falls under a row when its `op` is the row's and the fixed operand bits are 0 (R96). -/
theorem covers_append_iff {m : Mnemonic} {op arg : Byte} :
    m.covers (op ++ arg) = true ↔ op = m.op ∧ arg &&& m.argMask = 0 := by
  have masked : (op ++ arg) &&& m.mask = op ++ (arg &&& m.argMask) := by
    rw [m.mask_eq, BitVec.and_append]
    exact congrArg (· ++ (arg &&& m.argMask)) BitVec.and_allOnes
  rw [Mnemonic.covers, masked, Mnemonic.matchBits, beq_iff_eq]
  constructor
  · intro h
    have hop := congrArg opOf h
    have harg := congrArg argOf h
    simp only [opOf_append, argOf_append] at hop harg
    exact ⟨hop, harg⟩
  · rintro ⟨rfl, harg⟩
    rw [harg]

/-- The step of an operand-free row belongs to the row. -/
theorem mnemonic_of_plain {m : Mnemonic} {i : Instr} (h : m.plain = some i) : i.mnemonic = m := by
  cases m <;> cases h <;> rfl

/-- The `arg` values a row admits are those of its steps (R97). -/
theorem exists_arg_iff {m : Mnemonic} {arg : Byte} :
    (∃ i : Instr, i.mnemonic = m ∧ i.arg = arg) ↔ arg &&& m.argMask = 0 := by
  constructor
  · rintro ⟨i, rfl, rfl⟩
    cases i with
    | serByte v => exact BitVec.and_zero
    | latchSet l => cases l <;> rfl
    | _ => rfl
  · have level : ∀ arg : Byte, arg &&& 0xFE = 0 → (Instr.latchSet (arg.getLsbD 0)).arg = arg := by decide
    have whole (h : arg &&& 0xFF = 0) : 0 = arg := by simpa using (BitVec.and_allOnes (x := arg)).symm.trans h |>.symm
    intro h
    cases m with
    | serByte => exact ⟨.serByte arg, rfl, rfl⟩
    | latchSet => exact ⟨.latchSet (arg.getLsbD 0), rfl, level arg h⟩
    | _ => exact ⟨_, mnemonic_of_plain rfl, whole h⟩

/-- A word falls under a row exactly when it decodes to a step of the row (R96, R98). -/
theorem covers_iff_decode {w : EventWord} {m : Mnemonic} :
    m.covers w = true ↔ ∃ i : Instr, decode w = .step i ∧ i.mnemonic = m := by
  rw [← opOf_append_argOf w, covers_append_iff, ← exists_arg_iff]
  simp only [decode_eq_step_iff]
  constructor
  · rintro ⟨hop, i, rfl, harg⟩
    exact ⟨i, by rw [encode, ← hop, harg], rfl⟩
  · rintro ⟨i, hw, rfl⟩
    have hop := congrArg opOf hw
    have harg := congrArg argOf hw
    simp only [encode, opOf_append, argOf_append] at hop harg
    exact ⟨hop.symm, i, rfl, harg⟩

/-! ## Rejected words -/

/-- An `op` of no operand-free row that is neither of the two others is the `op` of no row. -/
theorem op_ne_of_plainOp_none {op : Byte} (hser : op ≠ 0x10) (hlat : op ≠ 0x11) (h : plainOp op = none)
    (m : Mnemonic) : m.op ≠ op := by
  rintro rfl
  cases m with
  | serByte => exact hser rfl
  | latchSet => exact hlat rfl
  | _ => cases h

/-- What the decoder answers: a step, or one of two rejections, each with its reason (R98, R99). -/
theorem decode_cases (w : EventWord) :
    (∃ i, decode w = .step i) ∨ (decode w = .invalid (.reservedOp w) ∧ ∀ m : Mnemonic, m.op ≠ opOf w) ∨
      (decode w = .invalid (.nonzeroArg w) ∧ ∃ m : Mnemonic, m.op = opOf w) := by
  rw [← opOf_append_argOf w]
  generalize opOf w = op
  generalize argOf w = arg
  rw [opOf_append, decode_append]
  split
  next => exact .inl ⟨_, rfl⟩
  next hser =>
    split
    next hop =>
      split
      next => exact .inl ⟨_, rfl⟩
      next => exact .inr (.inr ⟨rfl, .latchSet, hop.symm⟩)
    next hlat =>
      cases hj : plainOp op with
      | none => exact .inr (.inl ⟨rfl, op_ne_of_plainOp_none hser hlat hj⟩)
      | some j =>
        rw [Option.elim_some]
        split
        next => exact .inl ⟨_, rfl⟩
        next => exact .inr (.inr ⟨rfl, j.mnemonic, (plainOp_eq_some_iff.1 hj).2⟩)

/-- A word that decodes to a step falls under the step's row, whose `op` is the word's. -/
theorem op_and_covers_of_decode {w : EventWord} {i : Instr} (h : decode w = .step i) :
    i.mnemonic.op = opOf w ∧ i.mnemonic.covers w = true :=
  ⟨by rw [← encode_of_decode h, encode, opOf_append], covers_iff_decode.2 ⟨i, h, rfl⟩⟩

/-- A word that is rejected falls under no row. -/
theorem not_covers_of_invalid {w : EventWord} {why : Invalid} (h : decode w = .invalid why) (m : Mnemonic) :
    m.covers w = false := by
  rw [Bool.eq_false_iff]
  intro hm
  obtain ⟨i, hi, -⟩ := covers_iff_decode.1 hm
  cases h.symm.trans hi

end Sys2Proof

open Sys2Proof Sys2Proof.Machine

/-- Settles O1: the decoder gives every step's word back, and every spelling is well-formed. -/
theorem decodeOfEncode : Obligations.DecodeOfEncode := fun i => ⟨wf_of_instr i, decode_encode i⟩

/-- Settles O2, by the decoder's branches. -/
theorem encodeOfDecode : Obligations.EncodeOfDecode := fun _ _ => encode_of_decode

/-- Settles O3: both sides say that the word's `op` is the row's and its `arg` one the row admits. -/
theorem decoderFollowsOpcodeMap : Obligations.DecoderFollowsOpcodeMap := fun _ _ => covers_iff_decode

/-- Settles O4, by the three answers of the decoder. -/
theorem invalidWordsRejectedByName : Obligations.InvalidWordsRejectedByName := by
  intro w
  obtain ⟨i, hi⟩ | ⟨hd, hop⟩ | ⟨hd, m, hop⟩ := decode_cases w
  · obtain ⟨hop, hcov⟩ := op_and_covers_of_decode hi
    refine ⟨⟨fun h => ?_, fun h => absurd hop (h _)⟩, ⟨fun h => ?_, fun h => ?_⟩⟩
    · cases hi.symm.trans h
    · cases hi.symm.trans h
    · exact absurd hcov (by simp [h.2])
  · refine ⟨⟨fun _ => hop, fun _ => hd⟩, ⟨fun h => ?_, fun h => ?_⟩⟩
    · cases hd.symm.trans h
    · obtain ⟨⟨m, hm⟩, -⟩ := h
      exact absurd hm (hop m)
  · refine ⟨⟨fun h => ?_, fun h => absurd hop (h m)⟩, ⟨fun _ => ⟨⟨m, hop⟩, not_covers_of_invalid hd⟩, fun _ => hd⟩⟩
    cases hd.symm.trans h

/-- Settles O5: the decoder, evaluated. -/
theorem writtenWordsDecode : Obligations.WrittenWordsDecode := by
  unfold Obligations.WrittenWordsDecode
  decide

end

section
/-! What a step does, said once: the relation `StepEffect` lists, step by step and branch by branch, the condition and the
whole next state as one update of the old one, and `exec_iff_effect` ties it to `exec` in both directions. Frames,
invariants and the effects of single steps are read off it. -/

namespace Sys2Proof.Machine

variable {s t : State}

/-! ## The lines after a transmission, whatever they were -/

/-- At least one clocked byte, whatever the clock was: the data lines hold the last byte, the clock is low (R131). -/
theorem observe_clockBytes_lines (cfg : Config) (l : Lines) (c : Chips) (b : Byte) (bs : List Byte) :
    (observe cfg (l, c) ((b :: bs).flatMap clockByte)).1 = { l with data := bs.getLastD b, clk := false } := by
  have first : (observe cfg (l, c) (clockByte b)).1 = { l with data := b, clk := false } := by
    simp [clockByte, busAfter, Lines.after]
  rw [List.flatMap_cons, observe_append]
  generalize observe cfg (l, c) (clockByte b) = d at first ⊢
  obtain ⟨l', c'⟩ := d
  obtain rfl : l' = _ := first
  rw [observe_clockBytes _ _ _ _ rfl]

/-- The lines after the records of a timer service: latch and clock low, the data lines at the plane's last byte (R134). -/
theorem observe_timerService_lines (cfg : Config) (l : Lines) (c : Chips) (m : Memory) (f : Buffer) (n : BitVec 3) :
    (observe cfg (l, c) (timerServiceRecords m f n)).1 =
      ⟨m.read (bufAddr f (32 * n.toNat + 31)), false, false, l.blank⟩ := by
  have latched : (observe cfg (l, c) ([.lat true, .wait .tLat] ++ [.lat false, .wait .tLat])).1 =
      { l with lat := false } := by
    simp [busAfter, Lines.after]
  have bytes : planeBytesOf m f n = m.read (bufAddr f (stepOffset n)) ::
      (List.range 31).map fun i => m.read (bufAddr f (stepOffset n + (i + 1))) := by
    rw [planeBytesOf, planeBytes, List.range_succ_eq_map]
    simp [Function.comp_def]
  rw [timerServiceRecords, transmitRecords, bytes, ← List.append_assoc, observe_append]
  generalize observe cfg (l, c) ([.lat true, .wait .tLat] ++ [.lat false, .wait .tLat]) = d at latched ⊢
  obtain ⟨l', c'⟩ := d
  obtain rfl : l' = _ := latched
  rw [observe_clockBytes_lines]
  simp [List.range_succ, List.getLastD_eq_getLast?, stepOffset]

/-! ## The effect of every step -/

/-- The next states of each step, branch by branch (R121 to R128, R181 to R193, R221 to R230). -/
inductive StepEffect (s : State) : Instr → State → Prop
  /-- A refused host operation sets the mark alone (R227). -/
  | refuse {i : Instr} {r : RefuseReason} (h : refusalReason i s = some r) : StepEffect s i { s with refused := true }
  /-- `RX_INIT` (R221). -/
  | rxInit (hg : s.gie = false) : StepEffect s .rxInit { s with
      rxByte := 0, rxCount := 0, rxValid := false, cmdState := .awaitFirst, serIe := false, latPend := false,
      latIe := true, bootRx := true }
  /-- `RX_START` (R222). -/
  | rxStart (hb : s.bootRx = true) : StepEffect s .rxStart { s with latIe := true }
  /-- `BAM_INIT` (R121). -/
  | bamInit (hg : s.gie = false) (m : Memory) (hm : m = s.mem.zeroed) : StepEffect s .bamInit { s with
      mem := m, frontSel := .a, bamStep := 0, tmrRun := false, tmrPend := false,
      tmrReload := s.cfg.period 0, tmrCnt := s.cfg.period 0, lines := ⟨0x00, false, false, false⟩,
      busTrace := s.busTrace ++ bamInitRecords, chips := darkChips, bootBam := true }
  /-- `GIE_SET` (R223). -/
  | gieSet (hr : s.bootRx = true) (hb : s.bootBam = true) : StepEffect s .gieSet { s with gie := true }
  /-- `BAM_START` (R124). -/
  | bamStart (hb : s.bootBam = true) : StepEffect s .bamStart { s with tmrRun := true }
  /-- `LOOP_START` (R224). -/
  | loopStart (hr : s.bootRx = true) (hb : s.bootBam = true) : StepEffect s .loopStart { s with cEn := true }
  /-- `BAM_RESET` (R126). -/
  | bamReset (hb : s.bootBam = true) : StepEffect s .bamReset { s with
      tmrRun := false, bamStep := 0, tmrReload := s.cfg.period 0, tmrCnt := s.cfg.period 0 }
  /-- `SER_BYTE` (R225). -/
  | serByte (v : Byte) : StepEffect s (.serByte v) { s with serData := v, serFlag := true }
  /-- `LATCH_SET` to the other level: an edge (R226). -/
  | edge (l : Bool) (hl : l ≠ s.latchIn) : StepEffect s (.latchSet l) { s with latchIn := l, latPend := true }
  /-- `LATCH_SET` to the level the line has (R226). -/
  | sameLevel (l : Bool) (hl : l = s.latchIn) : StepEffect s (.latchSet l) s
  /-- `TICK` at expiry (R230). -/
  | expiry (hr : s.tmrRun = true) (hc : s.tmrCnt ≤ 1) : StepEffect s .tick { s with
      tmrCnt := s.tmrReload, tmrPend := true }
  /-- `TICK` before expiry (R230). -/
  | count (hr : s.tmrRun = true) (hc : 1 < s.tmrCnt) : StepEffect s .tick { s with tmrCnt := s.tmrCnt - 1 }
  /-- `SVC_TIMER` (R127). -/
  | svcTimer (hg : s.gie = true) (hp : s.tmrPend = true) : StepEffect s .svcTimer { s with
      tmrPend := false, tmrRun := true, tmrReload := s.cfg.period s.bamStep, tmrCnt := s.cfg.period s.bamStep,
      bamStep := s.bamStep + 1,
      lines := ⟨s.mem.read (bufAddr s.frontSel (32 * (s.bamStep + 1).toNat + 31)), false, false, s.lines.blank⟩,
      busTrace := s.busTrace ++ timerServiceRecords s.mem s.frontSel (s.bamStep + 1),
      chips := (observe s.cfg (s.lines, s.chips) (timerServiceRecords s.mem s.frontSel (s.bamStep + 1))).2 }
  /-- `SVC_LATCH` on a rising edge with a completed transfer (R182). -/
  | capture (hg : s.gie = true) (hi : s.latIe = true) (hp : s.latPend = true) (hl : s.latchIn = true)
      (hf : s.serFlag = true) : StepEffect s .svcLatch { s with
      latPend := false, rxByte := s.serData, serFlag := false, rxValid := true, serIe := true }
  /-- `SVC_LATCH` on a rising edge with none (R182). -/
  | rise (hg : s.gie = true) (hi : s.latIe = true) (hp : s.latPend = true) (hl : s.latchIn = true)
      (hf : s.serFlag = false) : StepEffect s .svcLatch { s with latPend := false, serIe := true }
  /-- `SVC_LATCH` on a falling edge (R183). -/
  | fall (hg : s.gie = true) (hi : s.latIe = true) (hp : s.latPend = true) (hl : s.latchIn = false) :
      StepEffect s .svcLatch { s with latPend := false, serIe := false, cmdState := .awaitFirst }
  /-- `SVC_SERIAL` of a first command (R184). -/
  | firstCommand (hg : s.gie = true) (hi : s.serIe = true) (hp : s.serFlag = true) (hc : s.cmdState = .awaitFirst) :
      StepEffect s .svcSerial { s with
      serFlag := false, rxByte := 0, rxCount := 0, rxValid := false, cmdState := .awaitSecond }
  /-- `SVC_SERIAL` of a later command (R184). -/
  | laterCommand (hg : s.gie = true) (hi : s.serIe = true) (hp : s.serFlag = true) (hc : s.cmdState = .awaitSecond) :
      StepEffect s .svcSerial { s with
      serFlag := false, rxByte := 0, rxCount := 0, rxValid := false, tmrRun := true, bamStep := 0,
      tmrReload := s.cfg.period 0, tmrCnt := s.cfg.period 0 }
  /-- `C_TEST` with no byte (R190). -/
  | noByte (he : s.cEn = true) (hp : s.cPhase = .test) (hv : s.rxValid = false) : StepEffect s .cTest s
  /-- `C_TEST` below a full frame (R190). -/
  | snapshot (he : s.cEn = true) (hp : s.cPhase = .test) (hv : s.rxValid = true) (hc : s.rxCount.toNat < 192) :
      StepEffect s .cTest { s with cVal := s.rxByte, cCh := s.rxCount, cPhase := .asm }
  /-- `C_TEST` with a full frame (R190). -/
  | swap (he : s.cEn = true) (hp : s.cPhase = .test) (hv : s.rxValid = true) (hc : 192 ≤ s.rxCount.toNat) :
      StepEffect s .cTest { s with frontSel := s.frontSel.other, rxCount := 0 }
  /-- `C_ASM` (R191). -/
  | cAsm (he : s.cEn = true) (hp : s.cPhase = .asm) :
      StepEffect s .cAsm { s with mem := (s.assemble s.cVal s.cCh).mem, cPhase := .inc }
  /-- `C_INC` (R192). -/
  | cInc (he : s.cEn = true) (hp : s.cPhase = .inc) :
      StepEffect s .cInc { s with rxCount := s.rxCount + 1, cPhase := .clr }
  /-- `C_CLR` (R193). -/
  | cClr (he : s.cEn = true) (hp : s.cPhase = .clr) :
      StepEffect s .cClr { s with rxValid := false, cPhase := .test }

/-! ## The bodies with branches -/

theorem tick_of_le (h : s.tmrCnt ≤ 1) : s.tick = { s with tmrCnt := s.tmrReload, tmrPend := true } := if_pos h

theorem tick_of_lt (h : 1 < s.tmrCnt) : s.tick = { s with tmrCnt := s.tmrCnt - 1 } := if_neg (Nat.not_le.2 h)

theorem resetBam_eq (s : State) : s.resetBam = { s with
    tmrRun := false, bamStep := 0, tmrReload := s.cfg.period 0, tmrCnt := s.cfg.period 0 } := by
  simp only [State.resetBam, State.loadTimer, timerValue_period]

theorem latchService_capture (hl : s.latchIn = true) (hf : s.serFlag = true) : s.latchService = { s with
    latPend := false, rxByte := s.serData, serFlag := false, rxValid := true, serIe := true } := by
  simp [State.latchService, State.enterService, State.clearRequest, State.capture, hl, hf]

theorem latchService_rise (hl : s.latchIn = true) (hf : s.serFlag = false) :
    s.latchService = { s with latPend := false, serIe := true } := by
  simp [State.latchService, State.enterService, State.clearRequest, hl, hf]

theorem latchService_fall (hl : s.latchIn = false) :
    s.latchService = { s with latPend := false, serIe := false, cmdState := .awaitFirst } := by
  simp [State.latchService, State.enterService, State.clearRequest, hl]

theorem serialService_first (hc : s.cmdState = .awaitFirst) : s.serialService = { s with
    serFlag := false, rxByte := 0, rxCount := 0, rxValid := false, cmdState := .awaitSecond } := by
  simp [State.serialService, State.enterService, State.clearRequest, State.rxClear, hc]

theorem serialService_later (hc : s.cmdState = .awaitSecond) : s.serialService = { s with
    serFlag := false, rxByte := 0, rxCount := 0, rxValid := false, tmrRun := true, bamStep := 0,
    tmrReload := s.cfg.period 0, tmrCnt := s.cfg.period 0 } := by
  simp [State.serialService, State.enterService, State.clearRequest, State.rxClear, resetBam_eq, State.startBam, hc]

theorem testPhase_noByte (hv : s.rxValid = false) : s.testPhase = s := by
  simp [State.testPhase, hv]

theorem testPhase_snapshot (hv : s.rxValid = true) (hc : s.rxCount.toNat < 192) :
    s.testPhase = { s with cVal := s.rxByte, cCh := s.rxCount, cPhase := .asm } := by
  simp [State.testPhase, nch, hv, hc]

theorem testPhase_swap (hv : s.rxValid = true) (hc : 192 ≤ s.rxCount.toNat) :
    s.testPhase = { s with frontSel := s.frontSel.other, rxCount := 0 } := by
  simp [State.testPhase, nch, hv, Nat.not_lt.2 hc, State.swap]

theorem asmPhase_eq (s : State) : s.asmPhase = { s with mem := (s.assemble s.cVal s.cCh).mem, cPhase := .inc } := by
  unfold State.asmPhase State.assemble
  split <;> rfl

/-- The whole body of the timer service, lines and chips included (R127, R134). -/
theorem timerService_whole (s : State) : s.timerService = { s with
    tmrPend := false, tmrRun := true, tmrReload := s.cfg.period s.bamStep, tmrCnt := s.cfg.period s.bamStep,
    bamStep := s.bamStep + 1,
    lines := ⟨s.mem.read (bufAddr s.frontSel (32 * (s.bamStep + 1).toNat + 31)), false, false, s.lines.blank⟩,
    busTrace := s.busTrace ++ timerServiceRecords s.mem s.frontSel (s.bamStep + 1),
    chips := (observe s.cfg (s.lines, s.chips) (timerServiceRecords s.mem s.frontSel (s.bamStep + 1))).2 } := by
  obtain ⟨hl, hc⟩ := Prod.ext_iff.1 (timerService_bus s)
  rw [observe_timerService_lines] at hl
  dsimp only at hl hc
  rw [timerService_eq s, hl, hc]

/-! ## Refusals and enabled services -/

/-- Where the table of R227 names a reason, the operation is refused. -/
theorem exec_of_refusalReason {i : Instr} {r : RefuseReason} (h : refusalReason i s = some r) :
    exec i s = .next { s with refused := true } := by
  cases i with
  | rxInit => exact exec_rxInit.2 (.inl ⟨(Option.ite_none_right_eq_some.1 h).1, rfl⟩)
  | rxStart => exact exec_rxStart.2 (.inl ⟨by simpa using (Option.ite_none_left_eq_some.1 h).1, rfl⟩)
  | bamInit => exact exec_bamInit.2 (.inl ⟨(Option.ite_none_right_eq_some.1 h).1, rfl⟩)
  | gieSet => exact exec_gieSet.2 (.inl ⟨by simpa [imp_iff_not_or] using (Option.ite_none_left_eq_some.1 h).1, rfl⟩)
  | bamStart => exact exec_bamStart.2 (.inl ⟨by simpa using (Option.ite_none_left_eq_some.1 h).1, rfl⟩)
  | loopStart => exact exec_loopStart.2 (.inl ⟨by simpa [imp_iff_not_or] using (Option.ite_none_left_eq_some.1 h).1, rfl⟩)
  | bamReset => exact exec_bamReset.2 (.inl ⟨by simpa using (Option.ite_none_left_eq_some.1 h).1, rfl⟩)
  | _ => cases h

theorem serviceEnabled_timer : s.serviceEnabled .timer = true ↔ s.gie = true ∧ s.tmrPend = true := by
  simp [State.serviceEnabled, State.sourceEnabled, State.pending]

theorem serviceEnabled_latch : s.serviceEnabled .latch = true ↔ s.gie = true ∧ s.latIe = true ∧ s.latPend = true := by
  simp [State.serviceEnabled, State.sourceEnabled, State.pending, and_assoc]

theorem serviceEnabled_serial :
    s.serviceEnabled .serial = true ↔ s.gie = true ∧ s.serIe = true ∧ s.serFlag = true := by
  simp [State.serviceEnabled, State.sourceEnabled, State.pending, and_assoc]

theorem consumerEnabled_iff {p : Phase} : s.consumerEnabled p = true ↔ s.cEn = true ∧ s.cPhase = p := by
  simp [State.consumerEnabled]

/-! ## The relation is `exec` -/

theorem effect_of_exec {i : Instr} (h : exec i s = .next t) : StepEffect s i t := by
  cases i with
  | rxInit =>
    obtain ⟨hg, rfl⟩ | ⟨hg, rfl⟩ := exec_rxInit.1 h
    · exact .refuse (if_pos hg)
    · exact .rxInit hg
  | rxStart =>
    obtain ⟨hb, rfl⟩ | ⟨hb, rfl⟩ := exec_rxStart.1 h
    · exact .refuse (if_neg (by simp [hb]))
    · exact .rxStart hb
  | bamInit =>
    obtain ⟨hg, rfl⟩ | ⟨hg, rfl⟩ := exec_bamInit.1 h
    · exact .refuse (if_pos hg)
    · rw [bamInit_eq]; exact .bamInit hg _ rfl
  | gieSet =>
    obtain ⟨hb, rfl⟩ | ⟨⟨hr, hb⟩, rfl⟩ := exec_gieSet.1 h
    · exact .refuse (if_neg (by simpa [imp_iff_not_or] using hb))
    · exact .gieSet hr hb
  | bamStart =>
    obtain ⟨hb, rfl⟩ | ⟨hb, rfl⟩ := exec_bamStart.1 h
    · exact .refuse (if_neg (by simp [hb]))
    · exact .bamStart hb
  | loopStart =>
    obtain ⟨hb, rfl⟩ | ⟨⟨hr, hb⟩, rfl⟩ := exec_loopStart.1 h
    · exact .refuse (if_neg (by simpa [imp_iff_not_or] using hb))
    · exact .loopStart hr hb
  | bamReset =>
    obtain ⟨hb, rfl⟩ | ⟨hb, rfl⟩ := exec_bamReset.1 h
    · exact .refuse (if_neg (by simp [hb]))
    · rw [resetBam_eq]; exact .bamReset hb
  | serByte v => obtain rfl := exec_serByte.1 h; exact .serByte v
  | latchSet l =>
    obtain ⟨hl, rfl⟩ | ⟨hl, rfl⟩ := exec_latchSet.1 h
    · exact .edge l hl
    · exact .sameLevel l hl
  | tick =>
    obtain ⟨hr, rfl⟩ := exec_tick.1 h
    obtain hc | hc := Nat.lt_or_ge 1 s.tmrCnt
    · rw [tick_of_lt hc]; exact .count hr hc
    · rw [tick_of_le hc]; exact .expiry hr hc
  | svcTimer =>
    obtain ⟨he, rfl⟩ := exec_svcTimer.1 h
    obtain ⟨hg, hp⟩ := serviceEnabled_timer.1 he
    rw [timerService_whole]; exact .svcTimer hg hp
  | svcLatch =>
    obtain ⟨he, rfl⟩ := exec_svcLatch.1 h
    obtain ⟨hg, hi, hp⟩ := serviceEnabled_latch.1 he
    cases hl : s.latchIn with
    | true =>
      cases hf : s.serFlag with
      | true => rw [latchService_capture hl hf]; exact .capture hg hi hp hl hf
      | false => rw [latchService_rise hl hf]; exact .rise hg hi hp hl hf
    | false => rw [latchService_fall hl]; exact .fall hg hi hp hl
  | svcSerial =>
    obtain ⟨he, rfl⟩ := exec_svcSerial.1 h
    obtain ⟨hg, hi, hp⟩ := serviceEnabled_serial.1 he
    cases hc : s.cmdState with
    | awaitFirst => rw [serialService_first hc]; exact .firstCommand hg hi hp hc
    | awaitSecond => rw [serialService_later hc]; exact .laterCommand hg hi hp hc
  | cTest =>
    obtain ⟨he, rfl⟩ := exec_cTest.1 h
    obtain ⟨he, hp⟩ := consumerEnabled_iff.1 he
    cases hv : s.rxValid with
    | false => rw [testPhase_noByte hv]; exact .noByte he hp hv
    | true =>
      obtain hc | hc := Nat.lt_or_ge s.rxCount.toNat 192
      · rw [testPhase_snapshot hv hc]; exact .snapshot he hp hv hc
      · rw [testPhase_swap hv hc]; exact .swap he hp hv hc
  | cAsm =>
    obtain ⟨he, rfl⟩ := exec_cAsm.1 h
    obtain ⟨he, hp⟩ := consumerEnabled_iff.1 he
    rw [asmPhase_eq]; exact .cAsm he hp
  | cInc =>
    obtain ⟨he, rfl⟩ := exec_cInc.1 h
    obtain ⟨he, hp⟩ := consumerEnabled_iff.1 he
    exact .cInc he hp
  | cClr =>
    obtain ⟨he, rfl⟩ := exec_cClr.1 h
    obtain ⟨he, hp⟩ := consumerEnabled_iff.1 he
    exact .cClr he hp

theorem StepEffect.exec {i : Instr} (e : StepEffect s i t) : exec i s = .next t := by
  cases e with
  | refuse h => exact exec_of_refusalReason h
  | rxInit hg => exact exec_rxInit.2 (.inr ⟨hg, rfl⟩)
  | rxStart hb => exact exec_rxStart.2 (.inr ⟨hb, rfl⟩)
  | bamInit hg m hm => exact exec_bamInit.2 (.inr ⟨hg, by rw [hm, bamInit_eq]⟩)
  | gieSet hr hb => exact exec_gieSet.2 (.inr ⟨⟨hr, hb⟩, rfl⟩)
  | bamStart hb => exact exec_bamStart.2 (.inr ⟨hb, rfl⟩)
  | loopStart hr hb => exact exec_loopStart.2 (.inr ⟨⟨hr, hb⟩, rfl⟩)
  | bamReset hb => exact exec_bamReset.2 (.inr ⟨hb, (resetBam_eq s).symm⟩)
  | serByte v => exact exec_serByte.2 rfl
  | edge l hl => exact exec_latchSet.2 (.inl ⟨hl, rfl⟩)
  | sameLevel l hl => exact exec_latchSet.2 (.inr ⟨hl, rfl⟩)
  | expiry hr hc => exact exec_tick.2 ⟨hr, (tick_of_le hc).symm⟩
  | count hr hc => exact exec_tick.2 ⟨hr, (tick_of_lt hc).symm⟩
  | svcTimer hg hp => exact exec_svcTimer.2 ⟨serviceEnabled_timer.2 ⟨hg, hp⟩, (timerService_whole s).symm⟩
  | capture hg hi hp hl hf =>
    exact exec_svcLatch.2 ⟨serviceEnabled_latch.2 ⟨hg, hi, hp⟩, (latchService_capture hl hf).symm⟩
  | rise hg hi hp hl hf =>
    exact exec_svcLatch.2 ⟨serviceEnabled_latch.2 ⟨hg, hi, hp⟩, (latchService_rise hl hf).symm⟩
  | fall hg hi hp hl => exact exec_svcLatch.2 ⟨serviceEnabled_latch.2 ⟨hg, hi, hp⟩, (latchService_fall hl).symm⟩
  | firstCommand hg hi hp hc =>
    exact exec_svcSerial.2 ⟨serviceEnabled_serial.2 ⟨hg, hi, hp⟩, (serialService_first hc).symm⟩
  | laterCommand hg hi hp hc =>
    exact exec_svcSerial.2 ⟨serviceEnabled_serial.2 ⟨hg, hi, hp⟩, (serialService_later hc).symm⟩
  | noByte he hp hv => exact exec_cTest.2 ⟨consumerEnabled_iff.2 ⟨he, hp⟩, (testPhase_noByte hv).symm⟩
  | snapshot he hp hv hc => exact exec_cTest.2 ⟨consumerEnabled_iff.2 ⟨he, hp⟩, (testPhase_snapshot hv hc).symm⟩
  | swap he hp hv hc => exact exec_cTest.2 ⟨consumerEnabled_iff.2 ⟨he, hp⟩, (testPhase_swap hv hc).symm⟩
  | cAsm he hp => exact exec_cAsm.2 ⟨consumerEnabled_iff.2 ⟨he, hp⟩, (asmPhase_eq s).symm⟩
  | cInc he hp => exact exec_cInc.2 ⟨consumerEnabled_iff.2 ⟨he, hp⟩, rfl⟩
  | cClr he hp => exact exec_cClr.2 ⟨consumerEnabled_iff.2 ⟨he, hp⟩, rfl⟩

/-- `StepEffect` says exactly what `exec` does. -/
theorem exec_iff_effect {i : Instr} : exec i s = .next t ↔ StepEffect s i t := ⟨effect_of_exec, StepEffect.exec⟩

end Sys2Proof.Machine

end

section
/-! The channel map and the frame assembler, bit by bit (R9, R62, R163 to R169): a channel is one bit lane of one byte of each
plane, `Assemble` writes that lane and no other, and so a whole frame is read back. -/

namespace Sys2Proof

/-! ## Lanes -/

/-- Bit `i` of the mask of lane `j`. -/
theorem getLsbD_lane {j : Nat} (hj : j < 8) (i : Nat) : ((1 : Byte) <<< j).getLsbD i = decide (j = i) := by
  have h := BitVec.getLsbD_twoPow (w := 8) j i
  rw [BitVec.twoPow_eq] at h
  simpa [hj] using h

/-- A byte under the mask of lane `j` tells the lane's bit. -/
theorem and_lane_ne_zero {j : Nat} (hj : j < 8) (b : Byte) : (b &&& (1 : Byte) <<< j != 0) = b.getLsbD j := by
  have nonzero : (1 : Byte) <<< j ≠ 0 := fun h => by simpa [hj] using (congrArg (·.getLsbD j) h).symm.trans rfl
  have h := BitVec.and_twoPow b j
  rw [BitVec.twoPow_eq] at h
  cases hb : b.getLsbD j <;> simp_all

theorem Config.mask_getLsbD {c : Config} {ch : Fin 192} {k : Fin 6} (hk : c.mask ch = (1 : Byte) <<< c.chainBit k)
    (j : Nat) : (c.mask ch).getLsbD j = decide (c.chainBit k = j) := by
  rw [hk, getLsbD_lane (c.chainBit_lt k)]

/-- Every chain's lane lies in `CHAIN_BITS` (R62). -/
theorem Config.chainMask_getLsbD (c : Config) (k : Fin 6) : c.chainMask.getLsbD (c.chainBit k) = true := by
  have fold : ∀ (l : List (Fin 6)) (m : Byte), (m.getLsbD (c.chainBit k) = true ∨ k ∈ l) →
      (l.foldl (fun m k => m ||| (1 : Byte) <<< c.chainBit k) m).getLsbD (c.chainBit k) = true := by
    intro l
    induction l with
    | nil => intro m h; simpa using h
    | cons x l ih =>
      intro m h
      refine ih _ ?_
      rw [BitVec.getLsbD_or, getLsbD_lane (c.chainBit_lt x)]
      obtain h | h := h
      · simp [h]
      · obtain rfl | h := List.mem_cons.1 h
        · simp
        · exact .inr h
  exact fold _ _ (.inr (List.mem_finRange k))

/-- A channel's lane lies in `CHAIN_BITS` (R9, R62). -/
theorem Config.chainMask_of_mask {c : Config} {ch : Fin 192} {j : Nat} (hj : (c.mask ch).getLsbD j = true) :
    c.chainMask.getLsbD j = true := by
  obtain ⟨k, hk⟩ := c.mask_eq ch
  rw [Config.mask_getLsbD hk, decide_eq_true_eq] at hj
  exact hj ▸ c.chainMask_getLsbD k

/-- The channel map meets each pair of a byte position and a chain: it is injective between sets of 192 members (R9). -/
theorem Config.exists_channel (c : Config) (p : Fin 32) (k : Fin 6) :
    ∃ ch : Fin 192, c.pos ch = p.val ∧ c.mask ch = (1 : Byte) <<< c.chainBit k := by
  choose chain hchain using c.mask_eq
  have injective : Function.Injective fun ch : Fin 192 => ((⟨c.pos ch, c.pos_lt ch⟩, chain ch) : Fin 32 × Fin 6) := by
    intro a b h
    obtain ⟨hpos, hk⟩ := Prod.ext_iff.1 h
    exact c.map_injective (Fin.val_eq_of_eq hpos) (by rw [hchain a, hchain b]; exact congrArg _ (congrArg _ hk))
  have surjective := ((Fintype.bijective_iff_injective_and_card _).2 ⟨injective, by simp⟩).2
  obtain ⟨ch, hch⟩ := surjective (p, k)
  obtain ⟨hpos, hk⟩ := Prod.ext_iff.1 hch
  exact ⟨ch, congrArg Fin.val hpos, by rw [hchain ch]; exact congrArg _ (congrArg _ hk)⟩

end Sys2Proof

namespace Sys2Proof.Machine

variable {cfg : Config} {m : Memory} {f : Buffer} {c d : Fin 192} {v : Byte} {p : Nat}

/-! ## BUF is determined by its reads -/

/-- The listed bytes of a canonical BUF are those that do not read as unlisted. -/
theorem Memory.mem_iff_readAt {m : Memory} (hm : m.wf) (k : Nat) (w : Byte) :
    (k, w) ∈ m ↔ m.readAt k = w ∧ w ≠ Memory.unlisted := by
  obtain ⟨hsorted, hlisted⟩ := hm
  induction m with
  | nil => simpa using fun h => h.symm
  | cons e m ih =>
    obtain ⟨b, x⟩ := e
    rw [List.map_cons, List.pairwise_cons] at hsorted
    have ih := ih hsorted.2 fun e he => hlisted e (List.mem_cons_of_mem _ he)
    have hx : x ≠ Memory.unlisted := (hlisted (b, x) List.mem_cons_self).2
    rw [List.mem_cons, Memory.readAt]
    by_cases hb : b = k
    · subst hb
      have fresh : (b, w) ∉ m := fun h => Nat.lt_irrefl b (hsorted.1 b (List.mem_map_of_mem h))
      simp only [Prod.mk.injEq, true_and, fresh, or_false, if_true]
      exact ⟨fun h => ⟨h.symm, h ▸ hx⟩, fun h => h.1.symm⟩
    · have other : (k, w) ≠ (b, x) := fun h => hb (congrArg Prod.fst h).symm
      rw [if_neg hb, ← ih]
      simp [other]

/-- Two canonical BUFs that read alike at every address are the same list. -/
theorem Memory.eq_of_read_eq {m n : Memory} (hm : m.wf) (hn : n.wf) (h : ∀ a, m.read a = n.read a) : m = n := by
  have readAt_eq {k : Nat} (hk : k < 512) : m.readAt k = n.readAt k := by
    simpa [Memory.read, Nat.mod_eq_of_lt hk] using h (BitVec.ofNat 9 k)
  have mem_iff (e : Host.Cell) : e ∈ m ↔ e ∈ n := by
    constructor
    · intro he
      exact (Memory.mem_iff_readAt hn e.1 e.2).2 (readAt_eq (hm.2 e he).1 ▸ (Memory.mem_iff_readAt hm e.1 e.2).1 he)
    · intro he
      exact (Memory.mem_iff_readAt hm e.1 e.2).2 (readAt_eq (hn.2 e he).1 ▸ (Memory.mem_iff_readAt hn e.1 e.2).1 he)
  have irrefl : Std.Irrefl fun a b : Host.Cell => a.1 < b.1 := ⟨fun a => Nat.lt_irrefl a.1⟩
  have antisymm : Std.Antisymm fun a b : Host.Cell => a.1 < b.1 := ⟨fun _ _ h h' => absurd h' (Nat.lt_asymm h)⟩
  exact (List.pairwise_map.1 hm.1).eq_of_mem_iff (List.pairwise_map.1 hn.1) mem_iff

/-! ## One `Assemble` -/

/-- `Assemble` leaves the lanes that are not the channel's, in every byte (R167). -/
theorem assembleMem_getLsbD_off_lane (hb : m.wf) {j : Nat} (hj : (cfg.mask c).getLsbD j = false) (a : BufAddr) :
    ((assembleMem cfg f v c m).read a).getLsbD j = (m.read a).getLsbD j := by
  by_cases ha : ∀ p < 8, a ≠ assembleAddr f p (cfg.pos c)
  · rw [assembleMem_read_ne _ _ _ _ _ _ ha]
  · push Not at ha
    obtain ⟨p, hp, rfl⟩ := ha
    rw [assembleMem_read cfg f v c hb hp]
    have inside (h : (m.read (assembleAddr f p (cfg.pos c))).getLsbD j = true) : j < 8 := BitVec.lt_of_getLsbD h
    split
    · simp [hj]
    · simpa [hj] using inside

/-- `Assemble` puts the value's bit in the channel's lane (R166). -/
theorem assembleMem_getLsbD_lane (hb : m.wf) {j : Nat} (hj : (cfg.mask c).getLsbD j = true) (hp : p < 8) :
    ((assembleMem cfg f v c m).read (assembleAddr f p (cfg.pos c))).getLsbD j = v.getLsbD p := by
  rw [assembleMem_read cfg f v c hb hp]
  cases hv : v.getLsbD p <;> simp [hj]

/-- A bit that `Assemble` changes is the channel's, in one of its 8 bytes (R167). -/
theorem lane_of_assembleMem_ne (hb : m.wf) {j : Nat} {a : BufAddr}
    (h : ((assembleMem cfg f v c m).read a).getLsbD j ≠ (m.read a).getLsbD j) :
    (cfg.mask c).getLsbD j = true ∧ ∃ p < 8, a = assembleAddr f p (cfg.pos c) := by
  constructor
  · by_contra hj
    exact h (assembleMem_getLsbD_off_lane hb (by simpa using hj) a)
  · by_contra ha
    push Not at ha
    exact h (by rw [assembleMem_read_ne _ _ _ _ _ _ ha])

/-- `Assemble` leaves every byte of the other buffer (R167). -/
theorem assembleMem_read_other {off : Nat} (hoff : off < 256) :
    (assembleMem cfg f.other v c m).read (bufAddr f off) = m.read (bufAddr f off) := by
  refine assembleMem_read_ne _ _ _ _ _ _ fun p hp h => ?_
  have hpos := cfg.pos_lt c
  exact f.other_ne (bufAddr_inj hoff (by omega) h).1.symm

/-- `Assemble` leaves the lanes that carry no channel (R62, R167). -/
theorem assembleMem_idle_lanes (hb : m.wf) (a : BufAddr) :
    (assembleMem cfg f v c m).read a &&& ~~~cfg.chainMask = m.read a &&& ~~~cfg.chainMask := by
  apply BitVec.eq_of_getLsbD_eq
  intro j hj
  rw [BitVec.getLsbD_and, BitVec.getLsbD_and]
  cases hm : (cfg.mask c).getLsbD j with
  | true => simp [Config.chainMask_of_mask hm]
  | false => rw [assembleMem_getLsbD_off_lane hb hm]

/-! ## Channels of a buffer -/

/-- A channel's bit of a plane, as a bit of its byte. -/
theorem channelBit_eq {k : Fin 6} (hk : cfg.mask c = (1 : Byte) <<< cfg.chainBit k) :
    channelBit cfg m f c p = (m.read (bufAddr f (32 * p + cfg.pos c))).getLsbD (cfg.chainBit k) := by
  rw [channelBit, hk, and_lane_ne_zero (cfg.chainBit_lt k)]

/-- What `Assemble` makes of every channel of its buffer: the assembled one takes the value's bits, any other stays, since
two channels differ in position or in chain (R9, R166, R167). -/
theorem channelBit_assembleMem (hb : m.wf) (hp : p < 8) :
    channelBit cfg (assembleMem cfg f v c m) f d p = if d = c then v.getLsbD p else channelBit cfg m f d p := by
  obtain ⟨k, hk⟩ := cfg.mask_eq d
  rw [channelBit_eq hk, channelBit_eq hk]
  split
  next hd =>
    subst hd
    exact assembleMem_getLsbD_lane hb (by simp [Config.mask_getLsbD hk]) hp
  next hd =>
    by_cases hpos : cfg.pos d = cfg.pos c
    · obtain ⟨j, hj⟩ := cfg.mask_eq c
      have hjk : j ≠ k := fun h => hd (cfg.map_injective hpos (by rw [hk, hj, h]))
      refine assembleMem_getLsbD_off_lane hb ?_ _
      rw [Config.mask_getLsbD hj, decide_eq_false_iff_not]
      exact fun h => hjk (cfg.chainBit_injective h)
    · rw [assembleMem_read_ne]
      intro q hq h
      obtain ⟨-, -, same⟩ := assembleAddr_inj hp hq (cfg.pos_lt d) (cfg.pos_lt c) h
      exact absurd same hpos

/-- A number below `2 ^ n` is the sum of its bits' weights. -/
theorem sum_weights (x n : Nat) : ((List.range n).map fun p => 2 ^ p * (x.testBit p).toNat).sum = x % 2 ^ n := by
  induction n with
  | zero => simp [Nat.mod_one]
  | succ n ih => rw [List.range_succ, List.map_append, List.sum_append, ih, Nat.mod_pow_succ, ← Nat.toNat_testBit]; simp

/-- A channel whose 8 bits are a value's decodes to the value (R169). -/
theorem decodeChannel_eq (h : ∀ p < 8, channelBit cfg m f c p = v.getLsbD p) : decodeChannel cfg m f c = v.toNat := by
  have bits : (List.range nstep).map (fun p => 2 ^ p * (channelBit cfg m f c p).toNat) =
      (List.range 8).map fun p => 2 ^ p * (v.toNat.testBit p).toNat :=
    List.map_congr_left fun p hp => by rw [h p (List.mem_range.1 hp)]; rfl
  rw [decodeChannel, bits, sum_weights]
  exact Nat.mod_eq_of_lt v.isLt

/-! ## Whole frames -/

/-- BUF after a list of channels, each with its byte of the image, is assembled into a buffer in turn. -/
def frameMem (cfg : Config) (f : Buffer) (img : Fin 192 → Byte) (order : List (Fin 192)) (m : Memory) : Memory :=
  order.foldl (fun m c => assembleMem cfg f (img c) c m) m

/-- Every assembled channel has the image's bits, every other one those it had. -/
theorem channelBit_frameMem (hb : m.wf) (img : Fin 192 → Byte) (order : List (Fin 192)) (hp : p < 8) :
    channelBit cfg (frameMem cfg f img order m) f d p =
      if d ∈ order then (img d).getLsbD p else channelBit cfg m f d p := by
  induction order generalizing m with
  | nil => rfl
  | cons c order ih =>
    have step : frameMem cfg f img (c :: order) m = frameMem cfg f img order (assembleMem cfg f (img c) c m) := rfl
    rw [step, ih (Memory.wf_assembleMem hb _ _ _ _), channelBit_assembleMem hb hp]
    by_cases hd : d = c
    · simp [hd]
    · simp [hd]

/-- A frame with every channel in it decodes to the image (R168, R169). -/
theorem decodeChannel_frameMem (hb : m.wf) (img : Fin 192 → Byte) {order : List (Fin 192)} (hd : d ∈ order) :
    decodeChannel cfg (frameMem cfg f img order m) f d = (img d).toNat :=
  decodeChannel_eq fun p hp => by rw [channelBit_frameMem hb img order hp, if_pos hd]

/-! ## `Assemble` on the state -/

variable {s : State}

theorem assemble_of_lt (v : Byte) {c : Byte} (h : c.toNat < 192) : s.assemble v c =
    { s with mem := assembleMem s.cfg s.frontSel.other v ⟨c.toNat, h⟩ s.mem } := dif_pos h

theorem assemble_channel (s : State) (v : Byte) (c : Fin 192) : s.assemble v (BitVec.ofNat 8 c.val) =
    { s with mem := assembleMem s.cfg s.frontSel.other v c s.mem } := by
  have hc : (BitVec.ofNat 8 c.val).toNat = c.val := by
    rw [BitVec.toNat_ofNat]
    exact Nat.mod_eq_of_lt (Nat.lt_trans c.isLt (by decide))
  have lt : (BitVec.ofNat 8 c.val).toNat < 192 := by rw [hc]; exact c.isLt
  rw [assemble_of_lt v lt]
  simp only [hc]

theorem wf_assemble (hb : s.mem.wf) (v c : Byte) : (s.assemble v c).mem.wf := by
  by_cases hc : c.toNat < 192
  · rw [assemble_of_lt v hc]; exact Memory.wf_assembleMem hb ..
  · rwa [State.assemble_of_ge _ _ _ (Nat.not_lt.1 hc)]

theorem assemble_idle_lanes (hb : s.mem.wf) (v c : Byte) (a : BufAddr) :
    (s.assemble v c).mem.read a &&& ~~~s.cfg.chainMask = s.mem.read a &&& ~~~s.cfg.chainMask := by
  by_cases hc : c.toNat < 192
  · rw [assemble_of_lt v hc]; exact assembleMem_idle_lanes hb a
  · rw [State.assemble_of_ge _ _ _ (Nat.not_lt.1 hc)]

theorem foldl_assemble (img : Fin 192 → Byte) (order : List (Fin 192)) (s : State) :
    order.foldl (fun (u : State) c => u.assemble (img c) (BitVec.ofNat 8 c.val)) s =
      { s with mem := frameMem s.cfg s.frontSel.other img order s.mem } := by
  induction order generalizing s with
  | nil => rfl
  | cons c order ih => rw [List.foldl_cons, ih, assemble_channel]; rfl

/-- The second of two equal `Assemble`s finds the lane as it would leave it. -/
theorem assembleMem_twice (hb : m.wf) :
    assembleMem cfg f v c (assembleMem cfg f v c m) = assembleMem cfg f v c m := by
  have hb' := Memory.wf_assembleMem hb cfg f v c
  refine Memory.eq_of_read_eq (Memory.wf_assembleMem hb' cfg f v c) hb' fun a => BitVec.eq_of_getLsbD_eq fun j hj => ?_
  by_contra h
  obtain ⟨hlane, p, hp, rfl⟩ := lane_of_assembleMem_ne hb' h
  exact h (by rw [assembleMem_getLsbD_lane hb' hlane hp, assembleMem_getLsbD_lane hb hlane hp])

end Sys2Proof.Machine

open Sys2Proof Sys2Proof.Machine

/-- Settles O26: existence by counting, uniqueness by the injectivity of R9. -/
theorem channelMapIsBijective : Obligations.ChannelMapIsBijective := by
  intro cfg p k
  obtain ⟨c, hpos, hmask⟩ := cfg.exists_channel p k
  exact ⟨c, ⟨hpos, hmask⟩, fun d hd hk => cfg.map_injective (hd.trans hpos.symm) (hk.trans hmask.symm)⟩

/-- Settles O27: the assembled channel's own bits. -/
theorem assembleReadsBack : Obligations.AssembleReadsBack := by
  intro s v c h hb p hp
  rw [State.assemble_mem_of_lt s v c h, channelBit_assembleMem hb hp, if_pos rfl]

/-- Settles O28: a changed bit is in the channel's lane of one of its 8 bytes, and those lie in the back buffer. -/
theorem assembleChangesOneLane : Obligations.AssembleChangesOneLane := by
  intro s v c h hb
  rw [assemble_of_lt v h]
  exact ⟨fun _ _ => lane_of_assembleMem_ne hb, fun _ => assembleMem_read_other, assembleMem_idle_lanes hb, rfl⟩

/-- Settles O29: canonical memories that read alike are equal. -/
theorem assembleTwiceIsOnce : Obligations.AssembleTwiceIsOnce := by
  intro s v c hb
  refine ⟨?_, State.assemble_of_ge s v c⟩
  by_cases hc : c.toNat < 192
  · simp only [assemble_of_lt v hc, assembleMem_twice hb]
  · simp only [State.assemble_of_ge s v c (Nat.not_lt.1 hc)]

/-- Settles O30, by induction on the order of the channels. -/
theorem frameRoundTrip : Obligations.FrameRoundTrip := by
  intro s img order hb hperm t c
  have hc : c ∈ order := hperm.mem_iff.2 (List.mem_finRange c)
  have ht : t = { s with
      mem := frameMem s.cfg s.frontSel.other img order s.mem, frontSel := s.frontSel.other } := by
    simp only [t, foldl_assemble, State.swap]
  rw [ht]
  exact ⟨fun p hp => by rw [channelBit_frameMem hb img order hp, if_pos hc], decodeChannel_frameMem hb img hc⟩

end

section
/-! The schedule (R81, R99) and the invariant of every step (R52, R62, R134, R195): what a step of the machine is, and part by
part that each effect keeps the invariant. -/

namespace Sys2Proof.Machine

variable {s t : State}

/-! ## Taking the next step off the schedule -/

/-- A word has no step exactly when it spells none. -/
theorem instr?_isNone_iff {w : EventWord} : (decode w).instr?.isNone = true ↔ ∀ i : Instr, decode w ≠ .step i := by
  cases decode w <;> simp [Decoded.instr?]

/-- A schedule whose words all spell steps has no INVALID word. -/
theorem firstInvalid_eq_none {script : List EventWord} (h : ∀ v ∈ script, ∃ j : Instr, decode v = .step j) :
    firstInvalid script = none := by
  refine List.find?_eq_none.2 fun v hv hnone => ?_
  obtain ⟨j, hj⟩ := h v hv
  exact instr?_isNone_iff.1 hnone j hj

/-- A schedule with an INVALID word is rejected by the name of one of its INVALID words (R99). -/
theorem fetch_of_invalid {script : List EventWord} {w : EventWord} (hw : w ∈ script)
    (h : ∀ i : Instr, decode w ≠ .step i) :
    ∃ v ∈ script, (∀ i : Instr, decode v ≠ .step i) ∧ fetch script = .rejected v := by
  have found : (firstInvalid script).isSome = true := List.find?_isSome.2 ⟨w, hw, instr?_isNone_iff.2 h⟩
  obtain ⟨v, hv⟩ := Option.isSome_iff_exists.1 found
  have invalid : (decode v).instr?.isNone = true := List.find?_some (p := fun w => (decode w).instr?.isNone) hv
  exact ⟨v, List.mem_of_find?_eq_some hv, instr?_isNone_iff.1 invalid, by simp only [fetch, hv]⟩

/-- A schedule whose words all spell steps offers the step of its first word (R81). -/
theorem fetch_cons {w : EventWord} {rest : List EventWord} {i : Instr}
    (hrest : ∀ v ∈ rest, ∃ j : Instr, decode v = .step j) (hi : decode w = .step i) :
    fetch (w :: rest) = .run i rest := by
  have valid : firstInvalid (w :: rest) = none := firstInvalid_eq_none fun v hv => by
    obtain rfl | hv := List.mem_cons.1 hv
    · exact ⟨i, hi⟩
    · exact hrest v hv
  simp only [fetch, valid, hi]

/-- A step of the machine that is taken is `exec` of some step, with the schedule moved on. -/
theorem exec_of_step (h : step s = .next t) :
    ∃ (i : Instr) (rest : List EventWord), exec i { s with script := rest } = .next t := by
  unfold step stepFetched at h
  split at h
  next i rest _ => exact ⟨i, rest, h⟩
  all_goals cases h

/-! ## Each part of the invariant under each effect -/

namespace StepEffect

variable {i : Instr}

theorem keeps_cfg (e : StepEffect s i t) : t.cfg = s.cfg := by
  cases e <;> rfl

/-- BUF stays canonical. -/
theorem keeps_MemOk (e : StepEffect s i t) (h : MemOk s) : MemOk t := by
  cases e with
  | bamInit hg m hm =>
    have zeroed : m.wf := hm ▸ Memory.wf_zeroed h
    exact zeroed
  | cAsm => exact wf_assemble h s.cVal s.cCh
  | _ => exact h

/-- The counter stays at most 192, and the snapshot below it (R52, R195). -/
theorem keeps_CountOk (e : StepEffect s i t) (h : CountOk s) : CountOk t := by
  obtain ⟨hle, hlt, hch⟩ := h
  have zero : (0 : Byte).toNat = 0 := rfl
  cases e with
  | rxInit | firstCommand | laterCommand | swap => exact ⟨by simp, fun _ => by simp, hch⟩
  | snapshot he hp hv hc => exact ⟨hle, fun _ => hc, fun _ => hc⟩
  | cAsm he hp => exact ⟨hle, fun _ => hlt (.inl hp), nofun⟩
  | cInc he hp =>
    have below := hlt (.inr hp)
    have succ : (s.rxCount + 1).toNat ≤ 192 := by rw [BitVec.toNat_add]; simp; omega
    exact ⟨succ, by simp, nofun⟩
  | cClr => exact ⟨hle, by simp, nofun⟩
  | _ => exact ⟨hle, hlt, hch⟩

/-- The timer's registers stay periods, and it runs only after `BAM_INIT` (R52, R230). -/
theorem keeps_TimerOk (e : StepEffect s i t) (hboot : BootOk s) (h : TimerOk s) : TimerOk t := by
  obtain ⟨hregs, hrun⟩ := h
  obtain ⟨hgie, -⟩ := hboot
  have loaded (p : BitVec 3) : 1 ≤ s.cfg.period p ∧ s.cfg.period p ≤ s.cfg.period 7 ∧ 1 ≤ s.cfg.period p ∧
      s.cfg.period p ≤ s.cfg.period 7 :=
    ⟨s.cfg.one_le_period p, s.cfg.period_le p, s.cfg.one_le_period p, s.cfg.period_le p⟩
  cases e with
  | bamInit => exact ⟨fun _ => loaded 0, nofun⟩
  | bamStart hb => exact ⟨hregs, fun _ => hb⟩
  | bamReset => exact ⟨fun _ => loaded 0, nofun⟩
  | svcTimer hg => exact ⟨fun _ => loaded s.bamStep, fun _ => (hgie hg).2⟩
  | laterCommand hg => exact ⟨fun _ => loaded 0, fun _ => (hgie hg).2⟩
  | expiry =>
    refine ⟨fun hb => ?_, hrun⟩
    obtain ⟨-, -, hmin, hmax⟩ := hregs hb
    exact ⟨hmin, hmax, hmin, hmax⟩
  | count hr hc =>
    refine ⟨fun hb => ?_, hrun⟩
    obtain ⟨hcnt, hmax, hreload⟩ := hregs hb
    exact ⟨Nat.le_sub_one_of_lt hc, Nat.le_trans (Nat.sub_le _ 1) hmax, hreload⟩
  | _ => exact ⟨hregs, hrun⟩

/-- Services, consumer and sources are enabled only after their inits (R54, R303). -/
theorem keeps_BootOk (e : StepEffect s i t) (h : BootOk s) : BootOk t := by
  obtain ⟨hgie, hcEn, hlat, hser, hphase⟩ := h
  cases e with
  | rxInit hg => exact ⟨fun h => ⟨rfl, (hgie h).2⟩, fun h => ⟨rfl, (hcEn h).2⟩, fun _ => rfl, nofun, hphase⟩
  | rxStart hb => exact ⟨hgie, hcEn, fun _ => hb, hser, hphase⟩
  | bamInit => exact ⟨fun h => ⟨(hgie h).1, rfl⟩, fun h => ⟨(hcEn h).1, rfl⟩, hlat, hser, hphase⟩
  | gieSet hr hb => exact ⟨fun _ => ⟨hr, hb⟩, hcEn, hlat, fun _ => rfl, hphase⟩
  | loopStart hr hb => exact ⟨hgie, fun _ => ⟨hr, hb⟩, hlat, hser, fun _ => rfl⟩
  | capture hg => exact ⟨hgie, hcEn, hlat, fun _ => hg, hphase⟩
  | rise hg => exact ⟨hgie, hcEn, hlat, fun _ => hg, hphase⟩
  | fall => exact ⟨hgie, hcEn, hlat, nofun, hphase⟩
  | snapshot he | cAsm he | cInc he | cClr he => exact ⟨hgie, hcEn, hlat, hser, fun _ => he⟩
  | _ => exact ⟨hgie, hcEn, hlat, hser, hphase⟩

/-- Clock and latch rest low; the outputs are blanked exactly before `BAM_INIT` (R134, R292). -/
theorem keeps_LinesOk (e : StepEffect s i t) (h : LinesOk s) : LinesOk t := by
  obtain ⟨hclk, hlat, hblank⟩ := h
  cases e with
  | bamInit => exact ⟨rfl, rfl, rfl⟩
  | svcTimer => exact ⟨rfl, rfl, hblank⟩
  | _ => exact ⟨hclk, hlat, hblank⟩

/-- The lanes that carry no channel stay 0 (R62). -/
theorem keeps_LanesOk (e : StepEffect s i t) (hmem : MemOk s) (h : LanesOk s) : LanesOk t := by
  cases e with
  | bamInit hg m hm =>
    intro a
    have zero : m.read a = 0 := hm ▸ Memory.read_zeroed hmem a
    have dark : (0 : Byte) &&& ~~~s.cfg.chainMask = 0 := BitVec.zero_and
    simpa only [zero] using dark
  | cAsm => exact fun a => (assemble_idle_lanes hmem s.cVal s.cCh a).trans (h a)
  | _ => exact h

/-- Every step keeps the whole invariant. -/
theorem keeps_Inv (e : StepEffect s i t) (h : Inv s) : Inv t := by
  obtain ⟨hmem, hcount, htimer, hboot, hlines, hlanes⟩ := h
  exact ⟨e.keeps_MemOk hmem, e.keeps_CountOk hcount, e.keeps_TimerOk hboot htimer, e.keeps_BootOk hboot,
    e.keeps_LinesOk hlines, e.keeps_LanesOk hmem hlanes⟩

end StepEffect

/-- The invariant does not speak of the schedule. -/
theorem inv_script (h : Inv s) (rest : List EventWord) : Inv { s with script := rest } := h

theorem inv_reset : Inv State.reset := by
  have timer : TimerOk State.reset := ⟨nofun, nofun⟩
  have lanes : LanesOk State.reset := fun _ => BitVec.zero_and
  exact ⟨by decide, by decide, timer, by decide, by decide, lanes⟩

end Sys2Proof.Machine

open Sys2Proof Sys2Proof.Machine

/-- Settles O53, part by part of the invariant and effect by effect. -/
theorem stepKeepsInvariant : Obligations.StepKeepsInvariant := by
  intro s t hinv hstep
  obtain ⟨i, rest, hexec⟩ := exec_of_step hstep
  exact (effect_of_exec hexec).keeps_Inv (inv_script hinv rest)

/-- Settles O52. -/
theorem invariantsAtReset : Obligations.InvariantsAtReset := ⟨inv_reset, Config.chipsAtPowerOn, rfl⟩

/-- Settles O6. -/
theorem stepRunsDecodedStep : Obligations.StepRunsDecodedStep := by
  intro s w rest i hs hrest hi _
  rw [step, hs, fetch_cons hrest hi]
  rfl

/-- Settles O7: the search for an INVALID word finds one. -/
theorem invalidScriptNeverRuns : Obligations.InvalidScriptNeverRuns := by
  intro s w hw hnone
  obtain ⟨v, hv, hv', hfetch⟩ := fetch_of_invalid hw hnone
  exact ⟨v, hv, hv', by rw [step, hfetch]; rfl⟩

end

section
/-! Single steps (R103, R121 to R127, R181 to R193, R221 to R230, R255, R256): which steps are taken, and the whole effect of
each one where it is. -/

namespace Sys2Proof.Machine

variable {s t u : State} {i : Instr} {is js : List Instr}

/-! ## Which steps are taken (R103, R255) -/

/-- A meaning with a guard answers a next state exactly when the guard holds. -/
theorem exists_next_iff_guard {c : Bool} {u : State} {r : Refusal} :
    (∃ t, (if c then Host.Outcome.next u else .refused r : Host.Outcome State Fault Refusal) = .next t) ↔ c = true := by
  simp [next_of_guard]

/-- A host operation answers a next state whether it is refused or not (R227). -/
theorem exists_next_of_choice {c : Bool} {u v : State} :
    ∃ t, (if c then Host.Outcome.next u else .next v : Host.Outcome State Fault Refusal) = .next t := by
  cases c <;> simp

theorem refused_of_guard {c : Bool} {u : State} {r : Refusal} (h : ¬ c = true) :
    (if c then Host.Outcome.next u else .refused r : Host.Outcome State Fault Refusal) = .refused r := if_neg h

/-- A step is taken exactly when it is enabled (R103). -/
theorem exists_next_iff_enabled (i : Instr) (s : State) : (∃ t, exec i s = .next t) ↔ enabled i s = true := by
  cases i with
  | serByte v => exact iff_of_true ⟨_, rfl⟩ rfl
  | rxInit | rxStart | bamInit | gieSet | bamStart | loopStart | bamReset | latchSet =>
    exact iff_of_true exists_next_of_choice rfl
  | tick | svcTimer | svcLatch | svcSerial | cTest | cAsm | cInc | cClr => exact exists_next_iff_guard

theorem enabled_of_host (h : i.agent = .host) (s : State) : enabled i s = true := by
  cases i with
  | tick | svcTimer | svcLatch | svcSerial | cTest | cAsm | cInc | cClr => cases h
  | _ => rfl

theorem exec_tick_refused (h : s.tmrRun = false) : exec .tick s = .refused .timerStopped := refused_of_guard (by simp [h])

/-- A service whose condition does not hold is refused by its name (R255). -/
theorem exec_service_refused {svc : Service} (h : ¬ s.serviceEnabled svc = true) :
    exec svc.instr s = .refused (.serviceNotEnabled svc) := by
  cases svc <;> exact refused_of_guard h

theorem exists_next_service {svc : Service} : (∃ t, exec svc.instr s = .next t) ↔ s.serviceEnabled svc = true := by
  cases svc <;> exact exists_next_iff_guard

/-- The consumer's steps and the phases that name them (R189). -/
def consumerSteps : List (Instr × Phase) := [(.cTest, .test), (.cAsm, .asm), (.cInc, .inc), (.cClr, .clr)]

theorem enabled_consumer {p : Phase} (h : (i, p) ∈ consumerSteps) : enabled i s = s.consumerEnabled p := by
  simp only [consumerSteps, List.mem_cons, Prod.mk.injEq, List.not_mem_nil, or_false] at h
  obtain ⟨rfl, rfl⟩ | ⟨rfl, rfl⟩ | ⟨rfl, rfl⟩ | ⟨rfl, rfl⟩ := h <;> rfl

/-- A consumer step that the phase does not name is refused (R189). -/
theorem exec_consumer_refused {p : Phase} (h : (i, p) ∈ consumerSteps) (hc : ¬ s.consumerEnabled p = true) :
    exec i s = .refused (.consumerNotEnabled p) := by
  simp only [consumerSteps, List.mem_cons, Prod.mk.injEq, List.not_mem_nil, or_false] at h
  obtain ⟨rfl, rfl⟩ | ⟨rfl, rfl⟩ | ⟨rfl, rfl⟩ | ⟨rfl, rfl⟩ := h <;> exact refused_of_guard hc

/-- A step that is not enabled is refused: nothing faults (R250). -/
theorem exists_refused_of_not_enabled (h : ¬ enabled i s = true) : ∃ r, exec i s = .refused r := by
  cases he : exec i s with
  | next t => exact absurd ((exists_next_iff_enabled i s).1 ⟨t, he⟩) h
  | fault r => cases r
  | refused r => exact ⟨r, rfl⟩

/-- The first member of a list that meets a check is found, given that none before it does. -/
theorem find?_eq_some_of_idxOf {order : List Service} {ok : Service → Bool} {svc : Service} (hmem : svc ∈ order)
    (hok : ok svc = true) (hfirst : ∀ other, order.idxOf other < order.idxOf svc → ok other = false) :
    order.find? ok = some svc := by
  induction order with
  | nil => cases hmem
  | cons x order ih =>
    by_cases hx : x = svc
    · subst hx
      rw [List.find?_cons_of_pos hok]
    · have hx0 : ok x = false := hfirst x (by simp [List.idxOf_cons_ne _ hx])
      rw [List.find?_cons_of_neg (by simp [hx0])]
      refine ih ((List.mem_cons.1 hmem).resolve_left (Ne.symm hx)) fun other hlt => ?_
      by_cases ho : x = other
      · exact ho ▸ hx0
      · refine hfirst other ?_
        rw [List.idxOf_cons_ne _ ho, List.idxOf_cons_ne _ hx]
        exact Nat.succ_lt_succ hlt

/-! ## Refusals (R227) -/

/-- Only a host operation has a reason to be refused. -/
theorem refusalReason_eq_none (h : i.agent ≠ .host ∨ i.mnemonic = .serByte ∨ i.mnemonic = .latchSet) (s : State) :
    refusalReason i s = none := by
  cases i with
  | rxInit | rxStart | bamInit | gieSet | bamStart | loopStart | bamReset =>
    simp [Instr.agent, Instr.mnemonic, Mnemonic.agent] at h
  | _ => rfl

/-- The mark is no reason for a refusal. -/
theorem refusalReason_marked (i : Instr) (s : State) : refusalReason i { s with refused := true } = refusalReason i s := by
  cases i <;> rfl

/-- A step that is not refused leaves the mark (R47). -/
theorem StepEffect.keeps_refused (e : StepEffect s i t) (h : refusalReason i s = none) : t.refused = s.refused := by
  cases e with
  | refuse hr => cases h.symm.trans hr
  | _ => rfl

/-! ## `BAM_INIT` and the timer service -/

/-- `BAM_INIT` leaves the empty list, the canonical form of an all-zero BUF (R121). -/
theorem bamInit_effect (hg : s.gie = false) (hmem : s.mem.wf) : StepEffect s .bamInit { s with
    mem := [], frontSel := .a, bamStep := 0, tmrRun := false, tmrPend := false,
    tmrReload := s.cfg.period 0, tmrCnt := s.cfg.period 0, lines := ⟨0x00, false, false, false⟩,
    busTrace := s.busTrace ++ bamInitRecords, chips := darkChips, bootBam := true } :=
  .bamInit hg [] (Memory.zeroed_eq_nil hmem).symm

theorem timerServiceRecords_eq (m : Memory) (f : Buffer) (n : BitVec 3) : timerServiceRecords m f n =
    [.lat true, .wait .tLat, .lat false, .wait .tLat] ++ (List.range 32).flatMap fun i =>
      [.data (m.read (bufAddr f (32 * n.toNat + i))), .wait .tLo, .clk true, .wait .tHi, .clk false] := by
  rw [timerServiceRecords, transmitRecords, planeBytesOf, List.flatMap_map]
  rfl

/-! ## Runs of known steps -/

/-- A run that begins with a step of known effect. -/
theorem run_cons (e : StepEffect s i u) (h : runSteps is u = .next t) : runSteps (i :: is) s = .next t := by
  rw [runSteps, e.exec]
  exact h

/-- A run in two parts, both taken to their ends. -/
theorem run_append (h₁ : runSteps is s = .next u) (h₂ : runSteps js u = .next t) : runSteps (is ++ js) s = .next t := by
  induction is generalizing s with
  | nil => cases h₁; exact h₂
  | cons i is ih =>
    obtain ⟨v, hv, hrest⟩ := runSteps_cons h₁
    exact run_cons (effect_of_exec hv) (ih hrest)

end Sys2Proof.Machine

open Sys2Proof Sys2Proof.Machine

/-- Settles O45, from the guards of the meanings. -/
theorem enabledStepsAreTaken : Obligations.EnabledStepsAreTaken := by
  refine ⟨exists_next_iff_enabled, fun i s h => enabled_of_host h s, fun s => ⟨Iff.rfl, exec_tick_refused⟩, ?_⟩
  intro s i p hip
  have named : enabled i s = true ↔ s.cEn = true ∧ s.cPhase = p := by
    rw [enabled_consumer hip, consumerEnabled_iff]
  exact ⟨named, fun h => exec_consumer_refused hip fun hc => h (consumerEnabled_iff.1 hc)⟩

/-- Settles O44. -/
theorem serviceDispatch : Obligations.ServiceDispatch := by
  intro s
  exact ⟨(exists_next_service (svc := .timer)).trans serviceEnabled_timer,
    (exists_next_service (svc := .latch)).trans serviceEnabled_latch,
    (exists_next_service (svc := .serial)).trans serviceEnabled_serial,
    fun svc h => exec_service_refused fun he => h (exists_next_service.2 he)⟩

/-- Settles O46: the search along the order stops at the service, or finds none. -/
theorem orderedServicesRunFirst : Obligations.OrderedServicesRunFirst := by
  intro order s horder
  refine ⟨fun svc hsvc hfirst => ?_, fun hnone => ?_⟩
  · have hmem : svc ∈ order := horder.mem_iff.2 (by cases svc <;> simp)
    have runs : stepOrdered order s = exec svc.instr s := by
      rw [stepOrdered, find?_eq_some_of_idxOf hmem hsvc hfirst]
    exact ⟨runs, runs ▸ exists_next_service.2 hsvc⟩
  · have none : order.find? s.serviceEnabled = none := List.find?_eq_none.2 fun svc _ => by simp [hnone svc]
    rw [stepOrdered, none]

/-- Settles O8: the fields by evaluation, the refusals since no check of R103 holds at power-on. -/
theorem powerOnReset : Obligations.PowerOnReset := by
  refine ⟨by simp [State.reset, Lines.powerOn], fun a => Memory.read_nil a, fun i hi => ?_⟩
  refine exists_refused_of_not_enabled ?_
  cases i with
  | tick | svcTimer | svcLatch | svcSerial | cTest | cAsm | cInc | cClr => exact Bool.false_ne_true
  | _ => exact absurd rfl hi

/-- Settles O10. -/
theorem receptionEntryPoints : Obligations.ReceptionEntryPoints :=
  fun _ => ⟨fun hg => (StepEffect.rxInit hg).exec, fun hb => (StepEffect.rxStart hb).exec⟩

/-- Settles O11. -/
theorem globalEntryPoints : Obligations.GlobalEntryPoints :=
  fun _ hr hb => ⟨(StepEffect.gieSet hr hb).exec, (StepEffect.loopStart hr hb).exec⟩

/-- Settles O12. -/
theorem bamStartAndReset : Obligations.BamStartAndReset :=
  fun _ hb => ⟨(StepEffect.bamStart hb).exec, (StepEffect.bamReset hb).exec⟩

/-- Settles O13. -/
theorem bamInitEffect : Obligations.BamInitEffect := by
  intro s hg hmem
  exact ⟨_, (bamInit_effect hg hmem).exec, Memory.read_nil, rfl⟩

/-- Settles O14: the second zeroing finds the empty list the first one leaves. -/
theorem bamInitTwice : Obligations.BamInitTwice := by
  intro s hg hmem
  have empty : Memory.wf [] := by decide
  exact ⟨_, _, (bamInit_effect hg hmem).exec, StepEffect.exec (bamInit_effect hg empty), rfl⟩

/-- Settles O15. -/
theorem upstreamStimuli : Obligations.UpstreamStimuli :=
  fun _ => ⟨fun v => (StepEffect.serByte v).exec, fun l hl => (StepEffect.edge l hl).exec,
    fun l hl => (StepEffect.sameLevel l hl).exec⟩

/-- Settles O16. -/
theorem hostRefusals : Obligations.HostRefusals := by
  refine ⟨fun s => ?_, fun i s r => exec_of_refusalReason, fun i s t h he => (effect_of_exec he).keeps_refused h⟩
  exact ⟨rfl, rfl, rfl, rfl, rfl, by simp [refusalReason], by simp [refusalReason], fun i h => refusalReason_eq_none h s⟩

/-- Settles O17: a refused call is refused again, one that is not sets the bit it has set. -/
theorem repeatedCallsChangeNothing : Obligations.RepeatedCallsChangeNothing := by
  intro i s hi
  cases hr : refusalReason i s with
  | some r => exact ⟨_, exec_of_refusalReason hr, exec_of_refusalReason ((refusalReason_marked i s).trans hr)⟩
  | none =>
    simp only [List.mem_cons, List.not_mem_nil, or_false] at hi
    obtain rfl | rfl | rfl | rfl := hi
    · have hb : s.bootRx = true := by simpa [refusalReason] using hr
      exact ⟨_, (StepEffect.rxStart hb).exec, (StepEffect.rxStart (s := { s with latIe := true }) hb).exec⟩
    · obtain ⟨hrx, hbam⟩ : s.bootRx = true ∧ s.bootBam = true := by simpa [refusalReason] using hr
      exact ⟨_, (StepEffect.gieSet hrx hbam).exec, (StepEffect.gieSet (s := { s with gie := true }) hrx hbam).exec⟩
    · obtain ⟨hrx, hbam⟩ : s.bootRx = true ∧ s.bootBam = true := by simpa [refusalReason] using hr
      exact ⟨_, (StepEffect.loopStart hrx hbam).exec, (StepEffect.loopStart (s := { s with cEn := true }) hrx hbam).exec⟩
    · have hb : s.bootBam = true := by simpa [refusalReason] using hr
      exact ⟨_, (StepEffect.bamStart hb).exec, (StepEffect.bamStart (s := { s with tmrRun := true }) hb).exec⟩

/-- Settles O18. -/
theorem tickEffect : Obligations.TickEffect :=
  fun _ hr => ⟨fun hc => (StepEffect.expiry hr hc).exec, fun hc => (StepEffect.count hr hc).exec⟩

/-- Settles O20. -/
theorem timerServiceEffect : Obligations.TimerServiceEffect := by
  intro s hg hp
  refine ⟨_, (StepEffect.svcTimer hg hp).exec, by simp [BitVec.toNat_add], ?_⟩
  rw [timerServiceRecords_eq]

/-- Settles O31. -/
theorem latchServiceEffect : Obligations.LatchServiceEffect :=
  fun _ hg hi hp => ⟨fun hl hf => (StepEffect.capture hg hi hp hl hf).exec,
    fun hl hf => (StepEffect.rise hg hi hp hl hf).exec, fun hl => (StepEffect.fall hg hi hp hl).exec⟩

/-- Settles O32. -/
theorem serialServiceEffect : Obligations.SerialServiceEffect :=
  fun _ hg hi hp => ⟨fun hc => (StepEffect.firstCommand hg hi hp hc).exec,
    fun hc => (StepEffect.laterCommand hg hi hp hc).exec⟩

/-- Settles O35. -/
theorem consumerTestEffect : Obligations.ConsumerTestEffect :=
  fun _ he hp => ⟨fun hv => (StepEffect.noByte he hp hv).exec, fun hv hc => (StepEffect.snapshot he hp hv hc).exec,
    fun hv hc => (StepEffect.swap he hp hv hc).exec⟩

/-- Settles O36. -/
theorem consumerAssembleEffect : Obligations.ConsumerAssembleEffect := by
  intro s he hp hmem
  refine ⟨_, (StepEffect.cAsm he hp).exec, rfl, fun h => ?_, fun h a => ?_⟩
  · simp only [State.assemble_mem_of_lt s s.cVal s.cCh h]
    exact ⟨fun p hp => assembleMem_read s.cfg s.frontSel.other s.cVal ⟨s.cCh.toNat, h⟩ hmem hp,
      assembleMem_read_ne s.cfg s.frontSel.other s.cVal ⟨s.cCh.toNat, h⟩ s.mem⟩
  · simp only [State.assemble_of_ge s s.cVal s.cCh h]

/-- Settles O37. -/
theorem consumerCountAndClear : Obligations.ConsumerCountAndClear :=
  fun _ he => ⟨fun hp => (StepEffect.cInc he hp).exec, fun hp => (StepEffect.cClr he hp).exec⟩

/-- Settles O42: neither the reset nor the start touches the request. -/
theorem pendingRequestSurvivesReset : Obligations.PendingRequestSurvivesReset := by
  intro s hg hb hp
  exact ⟨_, run_cons (.bamReset hb) <| run_cons (.bamStart hb) <| run_cons (.svcTimer hg hp) rfl,
    rfl, rfl, rfl, rfl, rfl, rfl⟩

/-- Settles O43: two edges make one request, and its service finds the latch deasserted. -/
theorem shortPulseLosesItsByte : Obligations.ShortPulseLosesItsByte := by
  intro s hg hi hl
  have pulse {is : List Instr} {t : State}
      (h : runSteps is { s with latPend := false, serIe := false, cmdState := .awaitFirst } = .next t) :
      runSteps (.latchSet true :: .latchSet false :: .svcLatch :: is) s = .next t := by
    refine run_cons (.edge true (by simp [hl])) <| run_cons (.edge false (by simp)) <| run_cons (.fall hg hi rfl rfl) ?_
    simpa only [← hl] using h
  refine ⟨pulse (is := []) rfl, fun hf => pulse ?_⟩
  exact run_cons (.edge true (by simp [hl])) <| run_cons (.capture hg hi rfl rfl hf) rfl

end

section
/-! Who writes what, and what does not matter (R23 to R54, R64, R68, R150): frames of the state, read off `StepEffect`. -/

namespace Sys2Proof.Machine

variable {s t : State} {i : Instr}

/-! ## Addresses -/

/-- The buffer bit of an address made of a buffer and an offset (R61). -/
theorem addrBuffer_bufAddr (f : Buffer) {off : Nat} (h : off < 256) : addrBuffer (bufAddr f off) = f := by
  have low : off.testBit 8 = false := Nat.testBit_lt_two_pow h
  have high : (256 + off).testBit 8 = true := by
    rw [show 256 = 2 ^ 8 from rfl, Nat.testBit_two_pow_add_eq, low]; rfl
  cases f <;>
    simp only [addrBuffer, bufAddr, Buffer.sel, BitVec.getLsbD_ofNat, Nat.mul_zero, Nat.zero_add, Nat.mul_one, low, high]
      <;> rfl

/-! ## The records a step emits -/

/-- The lines and chips that `BAM_INIT` leaves are what its records make of any lines and chips (R121, R154). -/
theorem observe_bamInit (cfg : Config) (l : Lines) (c : Chips) :
    observe cfg (l, c) bamInitRecords = (⟨0x00, false, false, false⟩, darkChips) := by
  have idle : observe cfg (l, c) [.blank true, .lat false, .clk false, .data 0x00] = (⟨0x00, false, false, true⟩, c) := by
    simp [busAfter, chipsAfter, Lines.after]
  rw [bamInitRecords, observe_append, observe_append, idle, observe_chipClear _ _ _ rfl rfl]
  simp [busAfter, chipsAfter, Lines.after]

/-- A waiting period per clocked byte: data settling and clock high (R310). -/
theorem waitTime_clockBytes (cfg : Config) (bs : List Byte) :
    waitTime cfg (bs.flatMap clockByte) = bs.length * (cfg.raw.tLo + cfg.raw.tHi) := by
  induction bs with
  | nil => simp [waitTime]
  | cons b bs ih =>
    have split : waitTime cfg ((b :: bs).flatMap clockByte) =
        cfg.raw.tLo + cfg.raw.tHi + waitTime cfg (bs.flatMap clockByte) := by
      simp [waitTime, clockByte, recordTime, delayTime, add_assoc]
    rw [split, ih, List.length_cons]
    push_cast
    ring

/-- The waits of a timer service add up to `D_TX` (R310). -/
theorem waitTime_timerService (cfg : Config) (m : Memory) (f : Buffer) (n : BitVec 3) :
    waitTime cfg (timerServiceRecords m f n) = transmitTime cfg := by
  have split : waitTime cfg (timerServiceRecords m f n) =
      cfg.raw.tLat + (cfg.raw.tLat + waitTime cfg ((planeBytesOf m f n).flatMap clockByte)) := by
    simp [timerServiceRecords, transmitRecords, waitTime, recordTime, delayTime]
  rw [split, waitTime_clockBytes, planeBytesOf_length, transmitTime]
  push_cast
  ring

namespace StepEffect

/-- Every step appends records to the trace, and its lines and chips are what the observer makes of them (R46, R150). -/
theorem emits (e : StepEffect s i t) :
    ∃ rs, t.busTrace = s.busTrace ++ rs ∧ observe s.cfg (s.lines, s.chips) rs = (t.lines, t.chips) := by
  cases e with
  | bamInit => exact ⟨bamInitRecords, rfl, observe_bamInit s.cfg s.lines s.chips⟩
  | svcTimer =>
    have lines := observe_timerService_lines s.cfg s.lines s.chips s.mem s.frontSel (s.bamStep + 1)
    exact ⟨timerServiceRecords s.mem s.frontSel (s.bamStep + 1), rfl, by dsimp only; rw [← lines]⟩
  | _ => exact ⟨[], (List.append_nil _).symm, rfl⟩

/-- The agreement of lines and chips with the trace since power-on is kept (R46, R150). -/
theorem keeps_observer (e : StepEffect s i t) (h : ObserverAgrees s) : ObserverAgrees t := by
  obtain ⟨c₀, h⟩ := h
  obtain ⟨rs, htrace, hbus⟩ := e.emits
  exact ⟨c₀, by rw [e.keeps_cfg, htrace, observe_append, h, hbus]⟩

/-! ## Flags: who sets them and who clears them (R48) -/

theorem tmrPend_set (e : StepEffect s i t) (h₀ : s.tmrPend = false) (h₁ : t.tmrPend = true) :
    i = .tick ∧ s.tmrCnt ≤ 1 := by
  cases e with
  | expiry hr hc => exact ⟨rfl, hc⟩
  | bamInit | svcTimer => cases h₁
  | _ => cases h₀.symm.trans h₁

theorem tmrPend_cleared (e : StepEffect s i t) (h₀ : s.tmrPend = true) (h₁ : t.tmrPend = false) :
    i = .svcTimer ∨ i = .bamInit := by
  cases e with
  | svcTimer => exact .inl rfl
  | bamInit => exact .inr rfl
  | expiry => cases h₁
  | _ => cases h₀.symm.trans h₁

theorem latPend_set (e : StepEffect s i t) (h₀ : s.latPend = false) (h₁ : t.latPend = true) :
    ∃ l : Bool, i = .latchSet l ∧ l ≠ s.latchIn := by
  cases e with
  | edge l hl => exact ⟨l, rfl, hl⟩
  | rxInit | capture | rise | fall => cases h₁
  | _ => cases h₀.symm.trans h₁

theorem latPend_cleared (e : StepEffect s i t) (h₀ : s.latPend = true) (h₁ : t.latPend = false) :
    i = .svcLatch ∨ i = .rxInit := by
  cases e with
  | capture | rise | fall => exact .inl rfl
  | rxInit => exact .inr rfl
  | edge => cases h₁
  | _ => cases h₀.symm.trans h₁

theorem serFlag_set (e : StepEffect s i t) (h₀ : s.serFlag = false) (h₁ : t.serFlag = true) :
    ∃ v : Byte, i = .serByte v := by
  cases e with
  | serByte v => exact ⟨v, rfl⟩
  | capture | firstCommand | laterCommand => cases h₁
  | _ => cases h₀.symm.trans h₁

theorem serFlag_cleared (e : StepEffect s i t) (h₀ : s.serFlag = true) (h₁ : t.serFlag = false) :
    (i = .svcLatch ∧ s.latchIn = true) ∨ i = .svcSerial := by
  cases e with
  | capture hg hi hp hl hf => exact .inl ⟨rfl, hl⟩
  | firstCommand | laterCommand => exact .inr rfl
  | serByte => cases h₁
  | _ => cases h₀.symm.trans h₁

theorem rxValid_set (e : StepEffect s i t) (h₀ : s.rxValid = false) (h₁ : t.rxValid = true) :
    i = .svcLatch ∧ s.latchIn = true ∧ s.serFlag = true := by
  cases e with
  | capture hg hi hp hl hf => exact ⟨rfl, hl, hf⟩
  | rxInit | firstCommand | laterCommand | cClr => cases h₁
  | _ => cases h₀.symm.trans h₁

theorem rxValid_cleared (e : StepEffect s i t) (h₀ : s.rxValid = true) (h₁ : t.rxValid = false) :
    i = .cClr ∨ i = .svcSerial ∨ i = .rxInit := by
  cases e with
  | cClr => exact .inl rfl
  | firstCommand | laterCommand => exact .inr (.inl rfl)
  | rxInit => exact .inr (.inr rfl)
  | capture => cases h₁
  | _ => cases h₀.symm.trans h₁

theorem cmdState_set (e : StepEffect s i t) (h₀ : s.cmdState = .awaitFirst) (h₁ : t.cmdState = .awaitSecond) :
    i = .svcSerial := by
  cases e with
  | firstCommand => rfl
  | rxInit | fall => cases h₁
  | _ => cases h₀.symm.trans h₁

theorem cmdState_cleared (e : StepEffect s i t) (h₀ : s.cmdState = .awaitSecond) (h₁ : t.cmdState = .awaitFirst) :
    (i = .svcLatch ∧ s.latchIn = false) ∨ i = .rxInit := by
  cases e with
  | fall hg hi hp hl => exact .inl ⟨rfl, hl⟩
  | rxInit => exact .inr rfl
  | firstCommand => cases h₁
  | _ => cases h₀.symm.trans h₁

/-! ## Bits that no step takes back (R29, R32, R41, R47, R54) -/

theorem keeps_bits (e : StepEffect s i t) :
    (s.gie = true → t.gie = true) ∧ (s.latIe = true → t.latIe = true) ∧ (s.cEn = true → t.cEn = true) ∧
      (s.bootRx = true → t.bootRx = true) ∧ (s.bootBam = true → t.bootBam = true) ∧
      (s.refused = true → t.refused = true) := by
  cases e with
  | refuse => exact ⟨id, id, id, id, id, fun _ => rfl⟩
  | rxInit => exact ⟨id, fun _ => rfl, id, fun _ => rfl, id, id⟩
  | rxStart => exact ⟨id, fun _ => rfl, id, id, id, id⟩
  | bamInit => exact ⟨id, id, id, id, fun _ => rfl, id⟩
  | gieSet => exact ⟨fun _ => rfl, id, id, id, id, id⟩
  | loopStart => exact ⟨id, id, fun _ => rfl, id, id, id⟩
  | _ => exact ⟨id, id, id, id, id, id⟩

/-! ## BUF (R64) -/

/-- A byte of BUF changes only in `BAM_INIT` and, at the assembled channel's position of a plane, in `C_ASM`. -/
theorem mem_written (e : StepEffect s i t) {a : BufAddr} (h : t.mem.read a ≠ s.mem.read a) :
    i = .bamInit ∨ (i = .cAsm ∧ ∃ hc : s.cCh.toNat < 192, ∃ p < 8,
      a = assembleAddr s.frontSel.other p (s.cfg.pos ⟨s.cCh.toNat, hc⟩)) := by
  cases e with
  | bamInit => exact .inl rfl
  | cAsm =>
    refine .inr ⟨rfl, ?_⟩
    dsimp only at h
    by_cases hc : s.cCh.toNat < 192
    · rw [State.assemble_mem_of_lt _ _ _ hc] at h
      by_contra hne
      push Not at hne
      exact h (assembleMem_read_ne _ _ _ _ _ _ (hne hc))
    · rw [State.assemble_of_ge _ _ _ (Nat.not_lt.1 hc)] at h
      exact absurd rfl h
  | _ => exact absurd rfl h

/-! ## What no step reads (R18, R51) -/

theorem assemble_mem_eq (s : State) (v c : Byte) : (s.assemble v c).mem =
    if h : c.toNat < 192 then assembleMem s.cfg s.frontSel.other v ⟨c.toNat, h⟩ s.mem else s.mem := by
  unfold State.assemble
  split <;> rfl

/-- With other chips in the state, the step has the same effect on all the rest (R18). -/
theorem other_chips (e : StepEffect s i t) (c : Chips) :
    ∃ c', StepEffect { s with chips := c } i { t with chips := c' } := by
  cases e with
  | bamInit hg m hm => exact ⟨darkChips, .bamInit (s := { s with chips := c }) hg m hm⟩
  | svcTimer hg hp => exact ⟨_, .svcTimer hg hp⟩
  | cAsm he hp =>
    refine ⟨c, ?_⟩
    have asm : StepEffect { s with chips := c } .cAsm _ := .cAsm he hp
    simpa only [assemble_mem_eq] using asm
  -- No other step reads or writes the chips: the same branch applies, under the same conditions.
  | _ => exact ⟨c, by constructor <;> assumption⟩

/-- With another snapshot in the state and no `C_ASM` due, the step has the same effect on all the rest, and what it
takes as a new snapshot is the same (R51). -/
theorem other_snapshot (e : StepEffect s i t) (hp : s.cPhase ≠ .asm) (x y : Byte) :
    ∃ x' y', StepEffect { s with cVal := x, cCh := y } i { t with cVal := x', cCh := y' } ∧
      (t.cPhase = .asm → x' = t.cVal ∧ y' = t.cCh) := by
  cases e with
  | bamInit hg m hm =>
    exact ⟨x, y, .bamInit (s := { s with cVal := x, cCh := y }) hg m hm, fun h => absurd h hp⟩
  | svcTimer hg hpend =>
    have service := StepEffect.svcTimer (s := { s with cVal := x, cCh := y }) hg hpend
    dsimp only at service hp ⊢
    exact ⟨x, y, service, fun h => absurd h hp⟩
  | snapshot he hp hv hc => exact ⟨_, _, .snapshot he hp hv hc, fun _ => ⟨rfl, rfl⟩⟩
  | cAsm he hasm => exact absurd hasm hp
  | cInc he hinc => exact ⟨x, y, .cInc he hinc, nofun⟩
  | cClr he hclr => exact ⟨x, y, .cClr he hclr, nofun⟩
  -- No other step reads or writes the snapshot or the phase: the same branch applies, under the same conditions.
  | _ => exact ⟨x, y, by constructor <;> assumption, fun h => absurd h hp⟩

end StepEffect

end Sys2Proof.Machine

open Sys2Proof Sys2Proof.Machine

/-- Settles O47, effect by effect. -/
theorem registerWriters : Obligations.RegisterWriters := by
  intro i s t h
  cases effect_of_exec h with
  | refuse hr =>
    cases i with
    | rxInit | rxStart | bamInit | gieSet | bamStart | loopStart | bamReset => simp [Instr.mnemonic]
    | _ => cases hr
  | _ => simp [Instr.mnemonic]

/-- Settles O48, flag by flag. -/
theorem flagSettersAndClearers : Obligations.FlagSettersAndClearers := by
  intro i s t h
  have e := effect_of_exec h
  exact ⟨e.tmrPend_set, e.tmrPend_cleared, e.latPend_set, e.latPend_cleared, e.serFlag_set, e.serFlag_cleared,
    e.rxValid_set, e.rxValid_cleared, e.cmdState_set, e.cmdState_cleared⟩

/-- Settles O49. -/
theorem neverTakenBack : Obligations.NeverTakenBack := by
  intro s t h
  obtain ⟨i, rest, hexec⟩ := exec_of_step h
  have e := effect_of_exec hexec
  obtain ⟨hgie, hlat, hcEn, hrx, hbam, hmark⟩ := e.keeps_bits
  obtain ⟨rs, htrace, -⟩ := e.emits
  exact ⟨hgie, hlat, hcEn, hrx, hbam, hmark, rs, htrace.symm⟩

/-- Settles O50. -/
theorem configurationIsConstant : Obligations.ConfigurationIsConstant := by
  refine ⟨fun s t h => ?_, fun _ => rfl⟩
  obtain ⟨i, rest, hexec⟩ := exec_of_step h
  exact (effect_of_exec hexec).keeps_cfg

/-- Settles O51: the channel's 8 addresses lie in the back buffer. -/
theorem bufferWriters : Obligations.BufferWriters := by
  intro i s t a h hne
  obtain hi | ⟨hi, hc, p, hp, ha⟩ := (effect_of_exec h).mem_written hne
  · exact .inl hi
  · have hpos := s.cfg.pos_lt ⟨s.cCh.toNat, hc⟩
    exact .inr ⟨hi, hc, p, hp, ha, ha ▸ addrBuffer_bufAddr _ (by omega)⟩

/-- Settles O54: a step's lines and chips are what its own records make of the old ones. -/
theorem stepKeepsObserver : Obligations.StepKeepsObserver := by
  intro s t hagrees h
  obtain ⟨i, rest, hexec⟩ := exec_of_step h
  exact (effect_of_exec hexec).keeps_observer hagrees

/-- Settles O55. -/
theorem staleSnapshotIsUnread : Obligations.StaleSnapshotIsUnread := by
  intro i s t x y hp h
  obtain ⟨x', y', e, hfresh⟩ := (effect_of_exec h).other_snapshot hp x y
  exact ⟨x', y', e.exec, hfresh⟩

/-- Settles O56. -/
theorem chipsOnlyObserve : Obligations.ChipsOnlyObserve := by
  intro i s t c h
  obtain ⟨c', e⟩ := (effect_of_exec h).other_chips c
  exact ⟨c', e.exec⟩

/-- Settles O57. -/
theorem timerServiceDuration : Obligations.TimerServiceDuration := by
  intro s t h
  obtain ⟨-, rfl⟩ := exec_svcTimer.1 h
  exact ⟨_, congrArg State.busTrace (timerService_eq s), waitTime_timerService ..⟩

end

section
/-! The BAM engine over runs (R127 to R139, R154, R302): where a transmission lands, what a timer service shows, when the next
request comes, and a whole cycle. -/

namespace Sys2Proof.Machine

variable {s t u : State} {i : Instr} {is js : List Instr} {cfg : Config} {c : Fin 192}

/-! ## A plane in the chains (R154) -/

/-- After the 32 bytes of a plane are shifted in, stage `i` of a chain has the chain's bit of the byte at position `31 - i`. -/
theorem planeBytes_shifted (cfg : Config) (m : Memory) (f : Buffer) (n : BitVec 3) (d : Chips) (k : Fin 6) {i : Nat}
    (hi : i < 32) :
    ((planeBytesOf m f n).foldl (fun c b => c.shift cfg b) d).sr[k].getLsbD i =
      (m.read (bufAddr f (stepOffset n + (31 - i)))).getLsbD (cfg.chainBit k) := by
  rw [shifts_sr cfg k _ d i hi, dif_pos (by simpa using hi)]
  simp [planeBytesOf, planeBytes]

/-- The stage a channel's bit reaches holds the channel's bit of the plane. -/
theorem bit_at_stage {r : BitVec 32} {m : Memory} {f : Buffer} {n : BitVec 3} {k : Fin 6}
    (hk : cfg.mask c = (1 : Byte) <<< cfg.chainBit k)
    (hr : ∀ i < 32, r.getLsbD i = (m.read (bufAddr f (stepOffset n + (31 - i)))).getLsbD (cfg.chainBit k)) :
    r.getLsbD (31 - cfg.pos c) = channelBit cfg m f c n.toNat := by
  have hpos := cfg.pos_lt c
  have back : 31 - (31 - cfg.pos c) = cfg.pos c := by omega
  rw [hr _ (by omega), back, channelBit_eq hk, stepOffset]

/-- A channel's chain is the one whose data line its mask selects. -/
theorem chainOf?_eq {k : Fin 6} (hk : cfg.mask c = (1 : Byte) <<< cfg.chainBit k) : chainOf? cfg c = some k := by
  have found : (chainOf? cfg c).isSome = true := List.find?_isSome.2 ⟨k, List.mem_finRange k, by simp [hk]⟩
  obtain ⟨j, hj⟩ := Option.isSome_iff_exists.1 found
  have same : cfg.mask c = (1 : Byte) <<< cfg.chainBit j := by simpa using List.find?_some hj
  have lane : (cfg.mask c).getLsbD (cfg.chainBit k) = true := by rw [Config.mask_getLsbD hk]; simp
  rw [Config.mask_getLsbD same, decide_eq_true_eq] at lane
  rw [hj, cfg.chainBit_injective lane]

/-- With a plane of a buffer on the unblanked outputs, a channel is on exactly if its bit of the plane is 1 (R138, R153). -/
theorem channelLit_eq {n : BitVec 3} (hblank : s.lines.blank = false) (hout : HoldsPlane s s.chips.out n) :
    s.channelLit c = channelBit s.cfg s.mem s.frontSel c n.toNat := by
  obtain ⟨k, hk⟩ := s.cfg.mask_eq c
  have lit : s.channelLit c = s.chips.out[k].getLsbD (31 - s.cfg.pos c) := by
    simp [State.channelLit, chainOf?_eq hk, outputOn, stageOf, hblank]
  rw [lit]
  exact bit_at_stage hk fun i hi => hout k ⟨i, hi⟩

/-! ## What a timer service shows (R134, R138) -/

/-- The next state of a timer service. -/
theorem svcTimer_effect (hg : s.gie = true) (hp : s.tmrPend = true) : StepEffect s .svcTimer s.timerService := by
  rw [timerService_whole]
  exact .svcTimer hg hp

/-- The chips after a timer service from lines at rest: the old shift registers on the outputs, the new plane shifted in. -/
theorem timerService_chips (hclk : s.lines.clk = false) (hlat : s.lines.lat = false) : s.timerService.chips =
    (planeBytesOf s.mem s.frontSel (s.bamStep + 1)).foldl (fun c b => c.shift s.cfg b) s.chips.transfer := by
  have bus := observe_timerService s.cfg s.lines s.chips s.mem s.frontSel (s.bamStep + 1) hlat hclk
  rw [← timerService_bus] at bus
  exact (Prod.mk.inj bus).2

theorem timerService_out (hclk : s.lines.clk = false) (hlat : s.lines.lat = false) :
    s.timerService.chips.out = s.chips.sr := by
  rw [timerService_chips hclk hlat, shifts_out]
  rfl

/-- `HoldsPlane` reads the configuration, BUF and the front buffer of the state, and nothing else of it. -/
theorem holdsPlane_congr {reg : Vector (BitVec 32) 6} {n : BitVec 3} (h : HoldsPlane s reg n) (hcfg : t.cfg = s.cfg)
    (hmem : t.mem = s.mem) (hfront : t.frontSel = s.frontSel) : HoldsPlane t reg n := by
  unfold HoldsPlane
  rw [hcfg, hmem, hfront]
  exact h

theorem timerService_cfg (s : State) : s.timerService.cfg = s.cfg := by rw [timerService_whole]
theorem timerService_mem (s : State) : s.timerService.mem = s.mem := by rw [timerService_whole]
theorem timerService_frontSel (s : State) : s.timerService.frontSel = s.frontSel := by rw [timerService_whole]
theorem timerService_lines (s : State) : s.timerService.lines =
    ⟨s.mem.read (bufAddr s.frontSel (32 * (s.bamStep + 1).toNat + 31)), false, false, s.lines.blank⟩ := by
  rw [timerService_whole]
theorem timerService_timer (s : State) : s.timerService.tmrRun = true ∧ s.timerService.tmrPend = false ∧
    s.timerService.tmrCnt = s.cfg.period s.bamStep ∧ s.timerService.tmrReload = s.cfg.period s.bamStep := by
  rw [timerService_whole]
  exact ⟨rfl, rfl, rfl, rfl⟩
theorem timerService_gie (s : State) : s.timerService.gie = s.gie := by rw [timerService_whole]

/-- The plane of the new step is in the shift registers. -/
theorem timerService_holds (hclk : s.lines.clk = false) (hlat : s.lines.lat = false) :
    HoldsPlane s.timerService s.timerService.chips.sr (s.bamStep + 1) := by
  refine holdsPlane_congr (s := s) (fun k i => ?_) (timerService_cfg s) (timerService_mem s) (timerService_frontSel s)
  rw [timerService_chips hclk hlat]
  exact planeBytes_shifted s.cfg s.mem s.frontSel (s.bamStep + 1) _ k i.isLt

/-- The step whose plane was in the shift registers is the one shown after the service. -/
theorem timerService_shows (hclk : s.lines.clk = false) (hlat : s.lines.lat = false) (hblank : s.lines.blank = false)
    (hold : HoldsPlane s s.chips.sr s.bamStep) :
    s.timerService.channelLit c = channelBit s.cfg s.mem s.frontSel c s.bamStep.toNat := by
  have lit : s.timerService.channelLit c = channelBit s.timerService.cfg s.timerService.mem s.timerService.frontSel c
      s.bamStep.toNat := by
    refine channelLit_eq (by rw [timerService_lines]; exact hblank) ?_
    rw [timerService_out hclk hlat]
    exact holdsPlane_congr hold (timerService_cfg s) (timerService_mem s) (timerService_frontSel s)
  rw [lit, timerService_cfg, timerService_mem, timerService_frontSel]

/-! ## Ticks in a row (R230) -/

/-- Ticks before expiry only count down. -/
theorem run_ticks_early (hr : s.tmrRun = true) {k : Nat} (hk : k < s.tmrCnt) :
    runSteps (List.replicate k .tick) s = .next { s with tmrCnt := s.tmrCnt - k } := by
  induction k generalizing s with
  | zero => rfl
  | succ k ih =>
    rw [List.replicate_succ]
    refine run_cons (.count hr (by omega)) ?_
    rw [ih (s := { s with tmrCnt := s.tmrCnt - 1 }) hr (by show k < s.tmrCnt - 1; omega)]
    simp only [Nat.sub_sub, Nat.add_comm]

/-- As many ticks as the count raise the request, and the timer starts over. -/
theorem run_ticks_expiry (hr : s.tmrRun = true) (hc : 1 ≤ s.tmrCnt) :
    runSteps (List.replicate s.tmrCnt .tick) s = .next { s with tmrCnt := s.tmrReload, tmrPend := true } := by
  have split : List.replicate s.tmrCnt Instr.tick = List.replicate (s.tmrCnt - 1) .tick ++ [.tick] := by
    rw [← List.replicate_succ', Nat.sub_add_cancel hc]
  rw [split]
  refine run_append (run_ticks_early hr (by omega)) (run_cons (.expiry hr ?_) rfl)
  show s.tmrCnt - (s.tmrCnt - 1) ≤ 1
  omega

/-- Until expiry no tick comes while a request waits. -/
theorem prompt_ticks (hr : s.tmrRun = true) (hp : s.tmrPend = false) {k : Nat} (hk : k ≤ s.tmrCnt) :
    prompt (List.replicate k .tick) s = true := by
  induction k generalizing s with
  | zero => rfl
  | succ k ih =>
    rw [List.replicate_succ, prompt]
    obtain hc | hc := Nat.lt_or_ge 1 s.tmrCnt
    · rw [runAll_next (StepEffect.count hr hc).exec, Bool.and_eq_true]
      exact ⟨by simp [hp], ih (s := { s with tmrCnt := s.tmrCnt - 1 }) hr hp (by show k ≤ s.tmrCnt - 1; omega)⟩
    · obtain rfl : k = 0 := by omega
      rw [runAll_next (StepEffect.expiry hr hc).exec, Bool.and_eq_true]
      exact ⟨by simp [hp], rfl⟩

/-- The lit ticks of a run whose first step is taken. -/
theorem litTicks_next (e : StepEffect s i t) :
    litTicks c (i :: is) s = (if i = .tick ∧ s.channelLit c then 1 else 0) + litTicks c is t := by
  simp only [litTicks, e.exec]

/-- While ticks run a channel stays as it is. -/
theorem litTicks_ticks (hr : s.tmrRun = true) (k : Nat) :
    litTicks c (List.replicate k .tick) s = k * (s.channelLit c).toNat := by
  induction k generalizing s with
  | zero => simp [litTicks]
  | succ k ih =>
    have lit : (if Instr.tick = .tick ∧ s.channelLit c then 1 else 0) = (s.channelLit c).toNat := by
      cases s.channelLit c <;> rfl
    obtain ⟨t, ht⟩ := (exists_next_iff_enabled .tick s).2 hr
    have e := effect_of_exec ht
    have still : t.channelLit c = s.channelLit c ∧ t.tmrRun = true := by
      cases e with
      | expiry | count => exact ⟨rfl, hr⟩
      | refuse h => cases h
    rw [List.replicate_succ, litTicks_next e, lit, ih still.2, still.1, Nat.add_mul, Nat.one_mul, Nat.add_comm]

/-! ## Runs in two parts -/

theorem litTicks_append (h : runSteps is s = .next u) :
    litTicks c (is ++ js) s = litTicks c is s + litTicks c js u := by
  induction is generalizing s with
  | nil => cases h; simp [litTicks]
  | cons i is ih =>
    obtain ⟨v, hv, hrest⟩ := runSteps_cons h
    have e := effect_of_exec hv
    rw [List.cons_append, litTicks_next e, litTicks_next e, ih hrest, Nat.add_assoc]

theorem runAll_append {ok : Instr → State → Bool} (h : runSteps is s = .next u) :
    runAll ok (is ++ js) s = (runAll ok is s && runAll ok js u) := by
  induction is generalizing s with
  | nil => cases h; rfl
  | cons i is ih =>
    obtain ⟨v, hv, hrest⟩ := runSteps_cons h
    rw [List.cons_append, runAll_next hv, runAll_next hv, ih hrest, Bool.and_assoc]

/-! ## The next request (R129) -/

/-- A timer loaded with `P` after `n` ticks: it runs, the count is what is left and no request is raised, or the request is
raised. -/
def CountsDown (P n : Nat) (s : State) : Prop :=
  s.tmrRun = true ∧ (n < P → s.tmrCnt = P - n ∧ s.tmrPend = false) ∧ (P ≤ n → s.tmrPend = true)

/-- A step that neither services nor resets the timer moves it by a tick, or not at all. -/
theorem StepEffect.keeps_CountsDown (e : StepEffect s i t) (hkept : resetsStep i s = false) (hi : i ≠ .svcTimer)
    {P n : Nat} (h : CountsDown P n s) : CountsDown P (n + [i].count .tick) t := by
  obtain ⟨hrun, hbefore, hafter⟩ := h
  cases e with
  | bamInit hg => simp [resetsStep, hg] at hkept
  | bamReset hb => simp [resetsStep, hb] at hkept
  | laterCommand hg hi hp hc => simp [resetsStep, hc] at hkept
  | svcTimer => exact absurd rfl hi
  | bamStart => exact ⟨rfl, hbefore, hafter⟩
  | expiry hr hc =>
    refine ⟨hrun, fun hlt => ?_, fun _ => rfl⟩
    have hlt : n + 1 < P := hlt
    obtain ⟨hcnt, -⟩ := hbefore (by omega)
    omega
  | count hr hc =>
    refine ⟨hrun, fun hlt => ?_, fun hle => ?_⟩
    · have hlt : n + 1 < P := hlt
      obtain ⟨hcnt, hpend⟩ := hbefore (by omega)
      exact ⟨by show s.tmrCnt - 1 = P - (n + 1); omega, hpend⟩
    · have hle : P ≤ n + 1 := hle
      obtain hlt | hge := Nat.lt_or_ge n P
      · obtain ⟨hcnt, -⟩ := hbefore hlt
        omega
      · exact hafter hge
  | refuse hr =>
    cases i with
    | tick => cases hr
    | _ => exact ⟨hrun, hbefore, hafter⟩
  | _ => exact ⟨hrun, hbefore, hafter⟩

/-- A whole run without a service or a reset moves the timer by its ticks. -/
theorem run_keeps_CountsDown {P n : Nat} (h : CountsDown P n s) (hrun : runSteps is s = .next t)
    (hkept : runAll (fun i s => !resetsStep i s) is s = true) (hsvc : .svcTimer ∉ is) :
    CountsDown P (n + is.count .tick) t := by
  induction is generalizing s n with
  | nil => cases hrun; exact h
  | cons i is ih =>
    obtain ⟨u, hu, hrest⟩ := runSteps_cons hrun
    rw [runAll_next hu, Bool.and_eq_true, Bool.not_eq_true'] at hkept
    obtain ⟨hfirst, hkept⟩ := hkept
    rw [List.mem_cons, not_or] at hsvc
    have next := ih ((effect_of_exec hu).keeps_CountsDown hfirst (Ne.symm hsvc.1) h) hrest hkept hsvc.2
    have total : (i :: is).count .tick = [i].count .tick + is.count .tick := List.count_append (l₁ := [i])
    rwa [total, ← Nat.add_assoc]

/-! ## A whole cycle (R139) -/

/-- The steps of a cycle that belong to step `p`: its service and its ticks. -/
def stepSegment (cfg : Config) (p : Nat) : List Instr :=
  .svcTimer :: List.replicate (cfg.period (BitVec.ofNat 3 p)) .tick

/-- Services enabled, lines at rest, outputs not blanked, step `p` next and its plane in the shift registers, with
configuration, BUF and front buffer those of `s₀`. -/
structure PlaneLoaded (s₀ : State) (p : Nat) (s : State) : Prop where
  cfg : s.cfg = s₀.cfg
  mem : s.mem = s₀.mem
  frontSel : s.frontSel = s₀.frontSel
  gie : s.gie = true
  bamStep : s.bamStep = BitVec.ofNat 3 p
  clk : s.lines.clk = false
  lat : s.lines.lat = false
  blank : s.lines.blank = false
  holds : HoldsPlane s s.chips.sr (BitVec.ofNat 3 p)

/-- The request for step `p` is pending and the step's plane loaded. -/
structure CycleAt (s₀ : State) (p : Nat) (s : State) : Prop extends PlaneLoaded s₀ p s where
  tmrPend : s.tmrPend = true

variable {s₀ : State} {p n : Nat}

/-- The service of a step loads the plane of the next one. -/
theorem PlaneLoaded.service (h : PlaneLoaded s₀ p s) : PlaneLoaded s₀ (p + 1) s.timerService := by
  have step : s.bamStep + 1 = BitVec.ofNat 3 (p + 1) := by rw [h.bamStep]; bv_omega
  exact {
    cfg := (timerService_cfg s).trans h.cfg
    mem := (timerService_mem s).trans h.mem
    frontSel := (timerService_frontSel s).trans h.frontSel
    gie := (timerService_gie s).trans h.gie
    bamStep := s.timerService_bamStep.trans step
    clk := by rw [timerService_lines]
    lat := by rw [timerService_lines]
    blank := by rw [timerService_lines]; exact h.blank
    holds := step ▸ timerService_holds h.clk h.lat }

/-- An expiry raises the request and leaves the loaded plane. -/
theorem PlaneLoaded.expiry (h : PlaneLoaded s₀ p s) :
    CycleAt s₀ p { s with tmrCnt := s.tmrReload, tmrPend := true } where
  toPlaneLoaded := ⟨h.cfg, h.mem, h.frontSel, h.gie, h.bamStep, h.clk, h.lat, h.blank, h.holds⟩
  tmrPend := rfl

/-- The segment of step `p` ends where step `p + 1` begins. -/
theorem CycleAt.run_segment (h : CycleAt s₀ p s) :
    ∃ t, runSteps (stepSegment s₀.cfg p) s = .next t ∧ CycleAt s₀ (p + 1) t := by
  obtain ⟨htrun, -, hcnt, -⟩ := timerService_timer s
  rw [h.bamStep, h.cfg] at hcnt
  have hticks := run_ticks_expiry htrun (hcnt ▸ s₀.cfg.one_le_period _)
  rw [hcnt] at hticks
  exact ⟨_, run_cons (svcTimer_effect h.gie h.tmrPend) hticks, h.service.expiry⟩

theorem CycleAt.prompt_segment (h : CycleAt s₀ p s) : prompt (stepSegment s₀.cfg p) s = true := by
  obtain ⟨htrun, htpend, hcnt, -⟩ := timerService_timer s
  rw [h.bamStep, h.cfg] at hcnt
  rw [stepSegment, prompt, runAll_next (svcTimer_effect h.gie h.tmrPend).exec]
  exact prompt_ticks htrun htpend (Nat.le_of_eq hcnt.symm)

/-- In the segment of step `p` a channel is on for its ticks or for none, as its bit of plane `p` says (R138). -/
theorem CycleAt.litTicks_segment (h : CycleAt s₀ p s) (c : Fin 192) (hp : p < 8) :
    litTicks c (stepSegment s₀.cfg p) s =
      s₀.cfg.period (BitVec.ofNat 3 p) * (channelBit s₀.cfg s₀.mem s₀.frontSel c p).toNat := by
  obtain ⟨htrun, -⟩ := timerService_timer s
  have hp3 : (BitVec.ofNat 3 p).toNat = p := by rw [BitVec.toNat_ofNat]; exact Nat.mod_eq_of_lt hp
  have lit := timerService_shows (c := c) h.clk h.lat h.blank (h.bamStep.symm ▸ h.holds)
  rw [h.cfg, h.mem, h.frontSel, h.bamStep, hp3] at lit
  rw [stepSegment, litTicks_next (svcTimer_effect h.gie h.tmrPend), litTicks_ticks htrun, lit]
  simp

/-- The first `n` segments of a cycle, from the request for step 0. -/
theorem CycleAt.run_segments (h : CycleAt s₀ 0 s) (hn : n ≤ 8) :
    ∃ t, runSteps ((List.range n).flatMap (stepSegment s₀.cfg)) s = .next t ∧ CycleAt s₀ n t ∧
      prompt ((List.range n).flatMap (stepSegment s₀.cfg)) s = true ∧
      ∀ c, litTicks c ((List.range n).flatMap (stepSegment s₀.cfg)) s = ((List.range n).map fun p =>
        s₀.cfg.period (BitVec.ofNat 3 p) * (channelBit s₀.cfg s₀.mem s₀.frontSel c p).toNat).sum := by
  induction n with
  | zero => exact ⟨s, rfl, h, rfl, fun _ => rfl⟩
  | succ n ih =>
    obtain ⟨u, hu, hat, hprompt, hlit⟩ := ih (Nat.le_of_succ_le hn)
    obtain ⟨t, ht, hnext⟩ := hat.run_segment
    have last : (List.range (n + 1)).flatMap (stepSegment s₀.cfg) =
        (List.range n).flatMap (stepSegment s₀.cfg) ++ stepSegment s₀.cfg n := by
      rw [List.range_succ, List.flatMap_append]
      simp
    rw [last]
    refine ⟨t, run_append hu ht, hnext, ?_, fun c => ?_⟩
    · rw [prompt, runAll_append hu]
      exact Bool.and_eq_true_iff.2 ⟨hprompt, hat.prompt_segment⟩
    · rw [litTicks_append hu, hlit c, hat.litTicks_segment c hn, List.range_succ, List.map_append, List.sum_append]
      simp

/-- The period of step `p` (R9 item 4, R66). -/
theorem period_ofNat (cfg : Config) (hp : p < 8) : cfg.period (BitVec.ofNat 3 p) = cfg.raw.p0 * 2 ^ p := by
  rw [cfg.period_eq, BitVec.toNat_ofNat, Nat.mod_eq_of_lt hp]

/-- The bits of a channel, weighted by their steps' periods, are `P0` times its value (R139). -/
theorem sum_periods (cfg : Config) (m : Memory) (f : Buffer) (c : Fin 192) :
    ((List.range 8).map fun p => cfg.period (BitVec.ofNat 3 p) * (channelBit cfg m f c p).toNat).sum =
      cfg.raw.p0 * decodeChannel cfg m f c := by
  have weights : ((List.range 8).map fun p => cfg.period (BitVec.ofNat 3 p) * (channelBit cfg m f c p).toNat) =
      (List.range 8).map fun p => cfg.raw.p0 * (2 ^ p * (channelBit cfg m f c p).toNat) :=
    List.map_congr_left fun p hp => by rw [period_ofNat cfg (List.mem_range.1 hp), Nat.mul_assoc]
  rw [weights, List.sum_map_mul_left]
  rfl

theorem count_cycleSteps (cfg : Config) : (cycleSteps cfg).count .tick = 255 * cfg.raw.p0 := by
  have segment (p : Nat) : (stepSegment cfg p).count .tick = cfg.period (BitVec.ofNat 3 p) := by simp [stepSegment]
  have total : (cycleSteps cfg).count .tick = ((List.range 8).map fun p => cfg.raw.p0 * 2 ^ p).sum := by
    rw [cycleSteps, List.count_flatMap]
    exact congrArg List.sum (List.map_congr_left fun p hp =>
      (segment p).trans (period_ofNat cfg (List.mem_range.1 hp)))
  rw [total, List.sum_map_mul_left, Nat.mul_comm]
  rfl

end Sys2Proof.Machine

open Sys2Proof Sys2Proof.Machine

/-- Settles O22: 32 shifts put the plane in the chains. -/
theorem transmissionLandsPlane : Obligations.TransmissionLandsPlane := by
  have landed (s : State) (n : BitVec 3) (k : Fin 6) (hclk : s.lines.clk = false) (i : Nat) (hi : i < 32) :
      (s.transmit n).chips.sr[k].getLsbD i =
        (s.mem.read (bufAddr s.frontSel (stepOffset n + (31 - i)))).getLsbD (s.cfg.chainBit k) := by
    rw [State.transmit_chips, observe_transmit _ _ _ _ _ _ hclk]
    exact planeBytes_shifted _ _ _ _ _ _ hi
  refine ⟨fun s n k i hclk => landed s n k hclk i i.isLt, fun s n c k hclk hk => ?_, fun s hclk hlat => ?_⟩
  · exact bit_at_stage hk (landed s n k hclk)
  · rw [State.chipClear_chips, observe_chipClear _ _ _ hclk hlat]

/-- Settles O23. -/
theorem serviceShowsItsPlane : Obligations.ServiceShowsItsPlane := by
  intro s hg hp hclk hlat hblank hold
  refine ⟨_, (svcTimer_effect hg hp).exec, timerService_out hclk hlat,
    fun c => timerService_shows hclk hlat hblank hold, ?_⟩
  rw [s.timerService_bamStep]
  exact timerService_holds hclk hlat

/-- Settles O19, by induction on the run: each tick brings the request one nearer, no other step moves it. -/
theorem nextExpiryAfterOnePeriod : Obligations.NextExpiryAfterOnePeriod := by
  intro s t u run hsvc hrun hkept hnone
  obtain ⟨-, rfl⟩ := exec_svcTimer.1 hsvc
  obtain ⟨htrun, htpend, hcnt, -⟩ := timerService_timer s
  have loaded : CountsDown (s.cfg.period s.bamStep) 0 s.timerService :=
    ⟨htrun, fun _ => ⟨hcnt, htpend⟩, fun h => absurd (s.cfg.one_le_period s.bamStep) (by omega)⟩
  obtain ⟨-, hbefore, hafter⟩ := run_keeps_CountsDown loaded hrun hkept hnone
  rw [Nat.zero_add] at hbefore hafter
  refine ⟨fun hpend => ?_, hafter⟩
  by_contra hlt
  cases hpend.symm.trans (hbefore (Nat.not_le.1 hlt)).2

/-- Settles O24, segment by segment of the cycle. -/
theorem cycleShowsEveryValue : Obligations.CycleShowsEveryValue := by
  intro s hg hp hstep hclk hlat hblank hold
  have start : CycleAt s 0 s := ⟨⟨rfl, rfl, rfl, hg, hstep, hclk, hlat, hblank, hold⟩, hp⟩
  obtain ⟨t, hrun, hend, hprompt, hlit⟩ := start.run_segments (Nat.le_refl 8)
  refine ⟨t, hrun, hprompt, count_cycleSteps s.cfg, fun c => ?_, hend.tmrPend, hend.bamStep, hend.holds⟩
  exact (hlit c).trans (sum_periods s.cfg s.mem s.frontSel c)

/-- Settles O9: the boot order step by step, then one period of ticks and the service. -/
theorem stateAfterBoot : Obligations.StateAfterBoot := by
  intro cfg script chips s t
  have empty : Memory.wf [] := by decide
  have boot : runSteps bootOrder s = .next t :=
    run_cons (.rxInit rfl) <| run_cons (bamInit_effect rfl empty) <| run_cons (.gieSet rfl rfl) <|
      run_cons (.bamStart rfl) <| run_cons (.loopStart rfl rfl) rfl
  have expiry := run_ticks_expiry (s := t) rfl (cfg.one_le_period 0)
  refine ⟨boot, fun k hk => ⟨_, run_ticks_early (s := t) rfl hk, rfl⟩, ?_⟩
  refine ⟨_, _, expiry, rfl, rfl, (svcTimer_effect rfl rfl).exec, timerService_out rfl rfl, ?_, Memory.read_nil⟩
  rw [timerService_eq]
  rfl

end

section
/-! The reception over runs (R182 to R197, R236): what keeps a command from being taken, the steps of a data byte, and a whole
frame. -/

namespace Sys2Proof.Machine

variable {s t u : State} {i : Instr} {is : List Instr}

/-! ## Commands (R184 to R188) -/

/-- Once the second command is awaited, only a serial service or a serviced falling edge changes that (R48). -/
theorem StepEffect.keeps_awaitSecond (e : StepEffect s i t) (hser : i ≠ .svcSerial)
    (hfall : i = .svcLatch → s.latchIn = true) (h : s.gie = true ∧ s.cmdState = .awaitSecond) :
    t.gie = true ∧ t.cmdState = .awaitSecond := by
  obtain ⟨hg, hc⟩ := h
  cases e with
  | rxInit hoff => cases hoff.symm.trans hg
  | gieSet => exact ⟨rfl, hc⟩
  | fall hg hi hp hl => cases hl.symm.trans (hfall rfl)
  | firstCommand | laterCommand => exact absurd rfl hser
  | _ => exact ⟨hg, hc⟩

theorem run_keeps_awaitSecond (hrun : runSteps is s = .next t) (hser : .svcSerial ∉ is)
    (hfall : runAll (fun i s => !(i == .svcLatch && !s.latchIn)) is s = true)
    (h : s.gie = true ∧ s.cmdState = .awaitSecond) : t.gie = true ∧ t.cmdState = .awaitSecond := by
  induction is generalizing s with
  | nil => cases hrun; exact h
  | cons i is ih =>
    obtain ⟨u, hu, hrest⟩ := runSteps_cons hrun
    rw [runAll_next hu, Bool.and_eq_true] at hfall
    rw [List.mem_cons, not_or] at hser
    have first : i = .svcLatch → s.latchIn = true := by simpa [imp_iff_not_or] using hfall.1
    exact ih hrest hser.2 hfall.2 ((effect_of_exec hu).keeps_awaitSecond (Ne.symm hser.1) first h)

/-- Without a transfer no completion comes up (R34). -/
theorem run_keeps_serFlag (h : s.serFlag = false) (hrun : runSteps is s = .next t)
    (hnone : ∀ v : Byte, .serByte v ∉ is) : t.serFlag = false := by
  induction is generalizing s with
  | nil => cases hrun; exact h
  | cons i is ih =>
    obtain ⟨u, hu, hrest⟩ := runSteps_cons hrun
    refine ih (Bool.eq_false_iff.2 fun hset => ?_) hrest fun v hv => hnone v (List.mem_cons_of_mem i hv)
    obtain ⟨v, rfl⟩ := (effect_of_exec hu).serFlag_set h hset
    exact hnone v List.mem_cons_self

/-! ## The steps of a data byte (R236) -/

/-- The state after the capture of a byte, the latch still asserted. -/
def State.captured (s : State) (v : Byte) : State :=
  { s with serData := v, serFlag := false, latchIn := true, latPend := false, rxByte := v, rxValid := true, serIe := true }

/-- The transfer, the rising edge and its service capture the byte (R182). -/
theorem run_byteHead (hidle : Idle s) (v : Byte) : runSteps (byteHead v) s = .next (s.captured v) := by
  obtain ⟨hg, hi, -, hl, -⟩ := hidle
  exact run_cons (.serByte v) <| run_cons (.edge true (by simp [hl])) <| run_cons (.capture hg hi rfl rfl rfl) rfl

/-- A whole call of the consumer assembles the byte as the counter's channel (R190 to R193). -/
theorem run_consumerCall (he : s.cEn = true) (hp : s.cPhase = .test) (hv : s.rxValid = true)
    (hc : s.rxCount.toNat < 192) : runSteps [.cTest, .cAsm, .cInc, .cClr] s = .next { s with
      mem := assembleMem s.cfg s.frontSel.other s.rxByte ⟨s.rxCount.toNat, hc⟩ s.mem, cVal := s.rxByte, cCh := s.rxCount,
      rxCount := s.rxCount + 1, rxValid := false, cPhase := .test } := by
  have assembled := State.assemble_mem_of_lt { s with cVal := s.rxByte, cCh := s.rxCount, cPhase := .asm } s.rxByte
    s.rxCount hc
  dsimp only at assembled
  refine run_cons (.snapshot he hp hv hc) <| run_cons (.cAsm he rfl) <| run_cons (.cInc he rfl) <|
    run_cons (.cClr he rfl) ?_
  simp only [runSteps, assembled]

/-- The falling edge and its service end the byte (R183). -/
theorem run_byteTail (hg : s.gie = true) (hi : s.latIe = true) (hl : s.latchIn = true) :
    runSteps byteTail s = .next { s with latchIn := false, latPend := false, serIe := false, cmdState := .awaitFirst } :=
  run_cons (.edge false (by simp [hl])) <| run_cons (.fall hg hi rfl rfl) rfl

/-- The state with its reception at rest: as the end of a byte leaves it. -/
def State.atRest (s : State) : State := { s with
  latchIn := false, latPend := false, serIe := false, serFlag := false, rxValid := false, cPhase := .test,
  cmdState := .awaitFirst }

/-- An idle state is at rest. -/
theorem atRest_of_idle (h : Idle s) : s.atRest = s := by
  cases s
  obtain ⟨-, -, -, rfl, rfl, rfl, rfl, rfl, rfl, rfl⟩ := h
  rfl

/-- The state after a data byte is taken from an idle state (R236, R102). -/
def State.afterByte (s : State) (v : Byte) (c : Fin 192) : State := { s with
  mem := assembleMem s.cfg s.frontSel.other v c s.mem, rxCount := s.rxCount + 1, rxByte := v, serData := v, cVal := v,
  cCh := s.rxCount }

theorem idle_afterByte (h : Idle s) (v : Byte) (c : Fin 192) : Idle (s.afterByte v c) := h

/-- What the consumer's call and the falling edge make of a captured byte. -/
theorem run_callAndTail (hg : s.gie = true) (hi : s.latIe = true) (he : s.cEn = true) (hp : s.cPhase = .test)
    (hc : s.rxCount.toNat < 192) (v : Byte) :
    runSteps ([.cTest, .cAsm, .cInc, .cClr] ++ byteTail) (s.captured v) =
      .next (s.afterByte v ⟨s.rxCount.toNat, hc⟩).atRest :=
  run_append (run_consumerCall (s := s.captured v) he hp rfl hc) (run_byteTail hg hi rfl)

/-- The nine steps of a data byte (R236). -/
theorem run_dataByte (hidle : Idle s) (v : Byte) (hc : s.rxCount.toNat < 192) :
    runSteps (dataByteSteps v) s = .next (s.afterByte v ⟨s.rxCount.toNat, hc⟩) := by
  have head := run_byteHead hidle v
  have rest := atRest_of_idle (idle_afterByte hidle v ⟨s.rxCount.toNat, hc⟩)
  obtain ⟨hg, hi, he, -, -, -, -, -, hp, -⟩ := hidle
  have run := run_append head (run_callAndTail hg hi he hp hc v)
  rw [rest, ← List.append_assoc] at run
  exact run

/-- A captured byte below a full frame makes `POLL` a whole call (R102). -/
theorem pollMacro_captured (he : s.cEn = true) (hp : s.cPhase = .test) (hc : s.rxCount.toNat < 192) (v : Byte) :
    pollMacro (s.captured v) = [.cTest, .cAsm, .cInc, .cClr] := by
  have test := (StepEffect.snapshot (s := s.captured v) he hp rfl hc).exec
  simp only [pollMacro, test]
  rfl

theorem byteMacro_idle (hidle : Idle s) (hc : s.rxCount.toNat < 192) (v : Byte) : byteMacro v s = dataByteSteps v := by
  have head := run_byteHead hidle v
  obtain ⟨-, -, he, -, -, -, -, -, hp, -⟩ := hidle
  simp only [byteMacro, head, pollMacro_captured he hp hc v]
  rfl

/-- The captured byte after a full frame, and the test that swaps (R194). -/
theorem run_swap (hidle : Idle s) (hc : s.rxCount = 192) (v : Byte) : runSteps (byteHead v ++ [.cTest]) s =
    .next { s.captured v with frontSel := s.frontSel.other, rxCount := 0 } := by
  have full : 192 ≤ s.rxCount.toNat := by rw [hc]; decide
  have head := run_byteHead hidle v
  obtain ⟨-, -, he, -, -, -, -, -, hp, -⟩ := hidle
  exact run_append head (run_cons (.swap he hp rfl full) rfl)

/-! ## A whole frame (R168, R194, R236) -/

theorem frameMem_append (cfg : Config) (f : Buffer) (img : Fin 192 → Byte) (a b : List (Fin 192)) (m : Memory) :
    frameMem cfg f img (a ++ b) m = frameMem cfg f img b (frameMem cfg f img a m) := List.foldl_append

/-- After the first `k` data bytes of an image: an idle state that has counted them, with the first `k` channels assembled
and nothing else of BUF or the roles changed. -/
theorem run_dataBytes (hidle : Idle s) (hc : s.rxCount = 0) (img : Fin 192 → Byte) {k : Nat} (hk : k ≤ 192) :
    ∃ t, runSteps (((List.finRange 192).take k).flatMap fun c => dataByteSteps (img c)) s = .next t ∧ Idle t ∧
      t.rxCount.toNat = k ∧ t.cfg = s.cfg ∧ t.frontSel = s.frontSel ∧
      t.mem = frameMem s.cfg s.frontSel.other img ((List.finRange 192).take k) s.mem := by
  induction k with
  | zero => exact ⟨s, rfl, hidle, by rw [hc]; rfl, rfl, rfl, rfl⟩
  | succ k ih =>
    obtain ⟨t, hrun, hidle', hcount, hcfg, hfront, hmem⟩ := ih (Nat.le_of_succ_le hk)
    have hlt : t.rxCount.toNat < 192 := hcount ▸ hk
    have channel : (⟨t.rxCount.toNat, hlt⟩ : Fin 192) = ⟨k, hk⟩ := Fin.ext hcount
    have next := run_dataByte hidle' (img ⟨k, hk⟩) hlt
    rw [channel] at next
    have take_succ : (List.finRange 192).take (k + 1) = (List.finRange 192).take k ++ [⟨k, hk⟩] := by
      rw [List.take_succ_eq_append_getElem (by simpa using hk)]
      simp
    refine ⟨t.afterByte (img ⟨k, hk⟩) ⟨k, hk⟩, ?_, idle_afterByte hidle' _ _, ?_, hcfg, hfront, ?_⟩
    · rw [take_succ, List.flatMap_append]
      exact run_append hrun (by simpa using next)
    · show (t.rxCount + 1).toNat = k + 1
      rw [BitVec.toNat_add, hcount]
      exact Nat.mod_eq_of_lt (Nat.lt_of_le_of_lt hk (by decide))
    · rw [take_succ, frameMem_append, ← hmem, ← hcfg, ← hfront]
      rfl

end Sys2Proof.Machine

open Sys2Proof Sys2Proof.Machine

/-- Settles O33: the first service leaves the second command awaited, and nothing in between takes that back. -/
theorem commandDisambiguation : Obligations.CommandDisambiguation := by
  intro s t u v between hfirst hst htu hnone hfall huv
  cases effect_of_exec hst with
  | refuse hr => cases hr
  | laterCommand hg hi hp hc => cases hfirst.symm.trans hc
  | firstCommand hg =>
    refine ⟨rfl, ?_⟩
    obtain ⟨-, hsecond⟩ := run_keeps_awaitSecond htu hnone hfall ⟨hg, rfl⟩
    cases effect_of_exec huv with
    | refuse hr => cases hr
    | firstCommand hg hi hp hc => cases hsecond.symm.trans hc
    | laterCommand => rfl

/-- Settles O34: the capture takes the completion, and only a transfer brings another. -/
theorem capturedByteIsNoCommand : Obligations.CapturedByteIsNoCommand := by
  intro s t u run hl hf hst htu hnone
  have taken : t.serFlag = false := by
    cases effect_of_exec hst with
    | refuse hr => cases hr
    | capture => rfl
    | rise hg hi hp hl hnot => cases hnot.symm.trans hf
    | fall hg hi hp hlow => cases hlow.symm.trans hl
  have none := run_keeps_serFlag taken htu hnone
  exact exec_service_refused (svc := .serial) fun he => by simp [serviceEnabled_serial, none] at he

/-- Settles O38. -/
theorem dataByteIsAssembled : Obligations.DataByteIsAssembled :=
  fun _ v hc hidle => ⟨byteMacro_idle hidle hc v, run_dataByte hidle v hc⟩

/-- Settles O39: the swap leaves a captured byte and a count of 0, from which the call goes on as for any byte. -/
theorem nextByteSwapsFullFrame : Obligations.NextByteSwapsFullFrame := by
  intro s v hidle hc
  have swapped := run_swap hidle hc v
  have idle' : Idle { s with frontSel := s.frontSel.other, rxCount := 0 } := hidle
  obtain ⟨hg, hi, he, -, -, -, -, -, hp, -⟩ := hidle
  have zero : (0 : Byte).toNat < 192 := by decide
  have call := run_callAndTail (s := { s with frontSel := s.frontSel.other, rxCount := 0 }) hg hi he hp zero v
  rw [atRest_of_idle (idle_afterByte idle' v _)] at call
  have run := run_append swapped call
  simp only [State.afterByte, Buffer.other_other] at run
  rw [← List.append_assoc] at run
  exact run

/-- Settles O40, by induction on the bytes of the frame; the swap then shows what they assembled. -/
theorem receivedFrameIsShown : Obligations.ReceivedFrameIsShown := by
  intro s img next hidle hc hmem
  obtain ⟨t, hrun, hidle', hcount, hcfg, hfront, hframe⟩ := run_dataBytes hidle hc img (Nat.le_refl 192)
  rw [List.take_of_length_le (by simp)] at hrun hframe
  have full : t.rxCount = 192 := BitVec.eq_of_toNat_eq hcount
  have run := run_append hrun (run_swap hidle' full next)
  rw [← List.append_assoc] at run
  refine ⟨_, run, congrArg Buffer.other hfront, fun c => ?_⟩
  show decodeChannel t.cfg t.mem t.frontSel.other c = (img c).toNat
  rw [hframe, hcfg, hfront]
  exact decodeChannel_frameMem hmem img (List.mem_finRange c)

/-- Settles O41: the snapshot is assembled although the counter is cleared, and `C_INC` counts from 0. -/
theorem clearDuringCallLeavesOne : Obligations.ClearDuringCallLeavesOne := by
  intro s h hg hi hf he hp hv
  obtain hc | hc : s.cmdState = .awaitFirst ∨ s.cmdState = .awaitSecond := by cases s.cmdState <;> simp
  · exact ⟨⟨_, run_cons (.snapshot he hp hv h) <| run_cons (.firstCommand hg hi hf hc) <| run_cons (.cAsm he rfl) <|
        run_cons (.cInc he rfl) rfl, rfl, State.assemble_mem_of_lt _ _ _ h⟩,
      ⟨_, run_cons (.snapshot he hp hv h) <| run_cons (.cAsm he rfl) <| run_cons (.firstCommand hg hi hf hc) <|
        run_cons (.cInc he rfl) rfl, rfl, State.assemble_mem_of_lt _ _ _ h⟩⟩
  · exact ⟨⟨_, run_cons (.snapshot he hp hv h) <| run_cons (.laterCommand hg hi hf hc) <| run_cons (.cAsm he rfl) <|
        run_cons (.cInc he rfl) rfl, rfl, State.assemble_mem_of_lt _ _ _ h⟩,
      ⟨_, run_cons (.snapshot he hp hv h) <| run_cons (.cAsm he rfl) <| run_cons (.laterCommand hg hi hf hc) <|
        run_cons (.cInc he rfl) rfl, rfl, State.assemble_mem_of_lt _ _ _ h⟩⟩

end

section
/-! The timing layer (R317): laying every step out as early as possible decides whether a run can be laid out at all. -/

namespace Sys2Proof.Machine

variable {hz now : Rat} {k : Nat} {run : List Timed}

/-- An earlier clock leaves more room. -/
theorem feasibleFrom_of_le {later : Rat} (hle : now ≤ later) (h : feasibleFrom hz k later run = true) :
    feasibleFrom hz k now run = true := by
  induction run generalizing now later k with
  | nil => rfl
  | cons step run ih =>
    cases step with
    | tick =>
      simp only [feasibleFrom, Bool.and_eq_true, decide_eq_true_eq] at h ⊢
      exact ⟨le_trans hle h.1, h.2⟩
    | work d => exact ih (now := now + d) (later := later + d) (by gcongr) h

/-- Start times exist exactly when the earliest ones do: a later start of a step leaves no more room for the rest. -/
theorem exists_laidOut_iff : (∃ starts, LaidOut hz k now run starts) ↔ feasibleFrom hz k now run = true := by
  induction run generalizing now k with
  | nil => exact iff_of_true ⟨[], trivial⟩ rfl
  | cons step run ih =>
    cases step with
    | tick =>
      simp only [feasibleFrom, Bool.and_eq_true, decide_eq_true_eq, ← ih]
      constructor
      · rintro ⟨starts, h⟩
        cases starts with
        | nil => cases h
        | cons start starts =>
          obtain ⟨hle, rfl, hrest⟩ := h
          exact ⟨hle, starts, hrest⟩
      · rintro ⟨hle, starts, hrest⟩
        exact ⟨_ :: starts, hle, rfl, hrest⟩
    | work d =>
      constructor
      · rintro ⟨starts, h⟩
        cases starts with
        | nil => cases h
        | cons start starts =>
          obtain ⟨hle, hrest⟩ := h
          exact feasibleFrom_of_le (now := now + d) (by gcongr) (ih.1 ⟨starts, hrest⟩)
      · intro h
        obtain ⟨starts, hrest⟩ := (ih (now := now + d)).2 h
        exact ⟨now :: starts, le_refl now, hrest⟩

end Sys2Proof.Machine

open Sys2Proof Sys2Proof.Machine

/-- Settles O58. -/
theorem earliestLayoutDecides : Obligations.EarliestLayoutDecides := fun _ _ => exists_laidOut_iff

end

section
/-! The host's duties (R235 to R237): plans that obey every duty, step by step, and the steps that break one. -/

namespace Sys2Proof.Machine

variable {s t u : State} {h h' h'' : Sender} {p : Planned} {ps qs : List Planned} {i : Instr} {is : List Instr}

/-! ## The checks of one step -/

/-- What H-pace asks of a step. -/
def paceOk (_ : Sender) (p : Planned) (s : State) : Bool := !p.captures s || (!s.rxValid && s.cPhase == .test)

/-- What H-byte asks of a step. -/
def byteOk (h : Sender) (p : Planned) (s : State) : Bool :=
  (!p.captures s || h.byteSent) && (!(isTransfer p.step && h.framing) || p.meant == .command)

/-- What H-shape asks of a step. -/
def shapeOk (h : Sender) (p : Planned) (s : State) : Bool :=
  !(isTransfer p.step && p.meant == .command) ||
    (h.framing && decide (h.commands < 2) && !s.latPend && !s.serFlag)

theorem dutyPace_eq (plan : List Planned) (s : State) : dutyPace plan s = planAll paceOk .start plan s := rfl
theorem dutyByte_eq (plan : List Planned) (s : State) : dutyByte plan s = planAll byteOk .start plan s := rfl
theorem dutyShape_eq (plan : List Planned) (s : State) : dutyShape plan s = planAll shapeOk .start plan s := rfl

/-- A step that meets all three. -/
structure StepObeys (h : Sender) (p : Planned) (s : State) : Prop where
  pace : paceOk h p s = true
  byte : byteOk h p s = true
  shape : shapeOk h p s = true

theorem stepObeys_iff :
    StepObeys h p s ↔ paceOk h p s = true ∧ byteOk h p s = true ∧ shapeOk h p s = true :=
  ⟨fun o => ⟨o.pace, o.byte, o.shape⟩, fun ⟨hpace, hbyte, hshape⟩ => ⟨hpace, hbyte, hshape⟩⟩

/-- A step that is neither a transfer nor a capturing edge meets every check. -/
theorem stepObeys_of_quiet (ht : isTransfer p.step = false) (hc : p.captures s = false) : StepObeys h p s := by
  simp [stepObeys_iff, paceOk, byteOk, shapeOk, ht, hc]

/-! ## Plans that obey -/

/-- A plan that is taken to its end with every check met, from a sender and a state to a sender and a state. -/
inductive Obeys : Sender → State → List Planned → Sender → State → Prop
  /-- Nothing is planned. -/
  | nil (h : Sender) (s : State) : Obeys h s [] h s
  /-- A step that is taken and meets the checks, then the rest. -/
  | cons {h h' h'' : Sender} {s u t : State} {p : Planned} {ps : List Planned} (e : StepEffect s p.step u)
      (hok : StepObeys h p s) (hafter : h.after p s = h') (hrest : Obeys h' u ps h'' t) : Obeys h s (p :: ps) h'' t

theorem Obeys.append (a : Obeys h s ps h' u) (b : Obeys h' u qs h'' t) : Obeys h s (ps ++ qs) h'' t := by
  induction a with
  | nil => exact b
  | cons e hok hafter _ ih => exact .cons e hok hafter (ih b)

variable {ok : Sender → Planned → State → Bool}

/-- A plan that obeys meets each of the checks. -/
theorem Obeys.planAll (o : Obeys h s ps h' t) (hok : ∀ h p s, StepObeys h p s → ok h p s = true) :
    planAll ok h ps s = true := by
  induction o with
  | nil => rfl
  | cons e hstep hafter _ ih => rw [planAll_next e.exec, hok _ _ _ hstep, hafter, ih, Bool.and_self]

/-- After a plan that obeys, a check of one more step is that step's. -/
theorem Obeys.planAll_last (o : Obeys h s ps h' t) (hok : ∀ h p s, StepObeys h p s → ok h p s = true) (p : Planned) :
    Machine.planAll ok h (ps ++ [p]) s = ok h' p t := by
  induction o with
  | nil h s =>
    rw [List.nil_append, Machine.planAll]
    cases exec p.step s <;> exact Bool.and_true _
  | cons e hstep hafter _ ih => rw [List.cons_append, planAll_next e.exec, hok _ _ _ hstep, hafter, ih, Bool.true_and]

/-- A check that every step of a run meets in every state is met along the run. -/
theorem runAll_of_forall {chk : Instr → State → Bool} (h : ∀ i ∈ is, ∀ s, chk i s = true) : runAll chk is s = true := by
  induction is generalizing s with
  | nil => rfl
  | cons i is ih =>
    have rest (t : State) : runAll chk is t = true := ih fun j hj => h j (List.mem_cons_of_mem i hj)
    rw [runAll, h i List.mem_cons_self s, Bool.true_and]
    cases exec i s with
    | next t => exact rest t
    | _ => rfl

/-- A plan without boot calls keeps H-boot (R235). -/
theorem dutyBoot_of_noCall (s : State) (hno : ∀ i ∈ is, i.agent ≠ .host ∨ i.mnemonic = .serByte ∨ i.mnemonic = .latchSet) :
    dutyBoot is s = true := by
  have noCall : is.filter isBootCall = [] := List.filter_eq_nil_iff.2 fun i hi => by
    have hi := hno i hi
    cases i with
    | rxInit | bamInit | gieSet | bamStart | loopStart => simp [Instr.agent, Instr.mnemonic, Mnemonic.agent] at hi
    | _ => exact Bool.false_ne_true
  have allowed : runAll (fun i s => (refusalReason i s).isNone) is s = true :=
    runAll_of_forall fun i hi s => by rw [refusalReason_eq_none (hno i hi)]; rfl
  rw [dutyBoot, noCall, allowed]
  rfl

/-- A plan that obeys, from the sender's start, keeps every duty. -/
theorem Obeys.keepsDuties (o : Obeys .start s ps h t) (hl : s.latchIn = false)
    (hno : ∀ i ∈ planSteps ps, i.agent ≠ .host ∨ i.mnemonic = .serByte ∨ i.mnemonic = .latchSet) :
    keepsDuties ps s = true := by
  simp only [Machine.keepsDuties, dutyBoot_of_noCall s hno, dutyLatch, hl, dutyPace_eq, dutyByte_eq, dutyShape_eq,
    o.planAll (ok := paceOk) fun _ _ _ h => h.pace, o.planAll (ok := byteOk) fun _ _ _ h => h.byte,
    o.planAll (ok := shapeOk) fun _ _ _ h => h.shape]
  rfl

/-! ## The stimuli and the rest, one by one -/

/-- A step that is no stimulus obeys, and leaves the sender. -/
theorem obeys_step (m : Purpose) (e : StepEffect s i t) (hno : (∀ v : Byte, i ≠ .serByte v) ∧ ∀ l : Bool, i ≠ .latchSet l) :
    Obeys h s (planned m [i]) h t := by
  obtain ⟨hbyte, hlevel⟩ := hno
  refine .cons e ?_ (after_noStimulus hbyte hlevel) (.nil h t)
  cases i with
  | serByte v => exact absurd rfl (hbyte v)
  | latchSet l => exact absurd rfl (hlevel l)
  | _ => exact stepObeys_of_quiet rfl rfl

/-- A run of steps that are no stimulus. -/
theorem obeys_noStimulus (m : Purpose) (hrun : runSteps is s = .next t)
    (hno : ∀ i ∈ is, (∀ v : Byte, i ≠ .serByte v) ∧ ∀ l : Bool, i ≠ .latchSet l) : Obeys h s (planned m is) h t := by
  induction is generalizing s with
  | nil => cases hrun; exact .nil _ _
  | cons i is ih =>
    obtain ⟨u, hu, hrest⟩ := runSteps_cons hrun
    exact (obeys_step m (effect_of_exec hu) (hno i List.mem_cons_self)).append
      (ih hrest fun j hj => hno j (List.mem_cons_of_mem i hj))

/-- A data byte's transfer outside a frame. -/
theorem obeys_transfer (v : Byte) (hf : h.framing = false) :
    Obeys h s (planned .dataByte [.serByte v]) { h with byteSent := true } { s with serData := v, serFlag := true } :=
  .cons (.serByte v) (by simp [stepObeys_iff, paceOk, byteOk, shapeOk, Planned.captures, isRise, hf]) rfl (.nil _ _)

/-- A rising edge after its byte's transfer, the byte before taken. -/
theorem obeys_rise (hb : h.byteSent = true) (hl : s.latchIn = false) (hv : s.rxValid = false) (hp : s.cPhase = .test) :
    Obeys h s (planned .dataByte [.latchSet true]) ⟨false, true, 0⟩ { s with latchIn := true, latPend := true } :=
  .cons (.edge true (by simp [hl])) (by simp [stepObeys_iff, paceOk, byteOk, shapeOk, isTransfer, hb, hv, hp])
    (after_capture hl) (.nil _ _)

/-- A falling edge. -/
theorem obeys_fall (m : Purpose) (hl : s.latchIn = true) : Obeys h s (planned m [.latchSet false])
    { h with framing := false, commands := 0 } { s with latchIn := false, latPend := true } :=
  .cons (.edge false (by simp [hl])) (stepObeys_of_quiet rfl rfl) (after_fall hl) (.nil _ _)

/-- A command's transfer in a frame, at most one before it, everything before it serviced. -/
theorem obeys_command (x : Byte) (hf : h.framing = true) (hc : h.commands < 2) (hp : s.latPend = false)
    (hs : s.serFlag = false) : Obeys h s (planned .command [.serByte x]) { h with commands := h.commands + 1 }
      { s with serData := x, serFlag := true } :=
  .cons (.serByte x) (by simp [stepObeys_iff, paceOk, byteOk, shapeOk, Planned.captures, isRise, hf, hc, hp, hs]) rfl
    (.nil _ _)

/-! ## The protocol's sequences (R236, R237) -/

/-- In a frame: the latch asserted and serviced, its serial service enabled, every transfer serviced. -/
abbrev InFrame (s : State) : Prop :=
  s.gie = true ∧ s.latIe = true ∧ s.serIe = true ∧ s.latchIn = true ∧ s.latPend = false ∧ s.serFlag = false

/-- The capture of a data byte from an idle state. -/
theorem obeys_byteHead (hidle : Idle s) (v : Byte) :
    Obeys .start s (planned .dataByte (byteHead v)) ⟨false, true, 0⟩ (s.captured v) := by
  obtain ⟨hg, hi, -, hl, -, -, -, hv, hp, -⟩ := hidle
  have rise := obeys_rise (h := ⟨true, false, 0⟩) (s := { s with serData := v, serFlag := true }) rfl hl hv hp
  exact (obeys_transfer v rfl).append <| rise.append <|
    obeys_step .dataByte
      (.capture (s := { s with serData := v, serFlag := true, latchIn := true, latPend := true }) hg hi rfl rfl rfl) (by simp)

/-- The end of a frame. -/
theorem obeys_byteTail (m : Purpose) (hg : s.gie = true) (hi : s.latIe = true) (hl : s.latchIn = true) :
    Obeys h s (planned m byteTail) { h with framing := false, commands := 0 }
      { s with latchIn := false, latPend := false, serIe := false, cmdState := .awaitFirst } :=
  (obeys_fall m hl).append (obeys_step m (.fall hg hi rfl rfl) (by simp))

/-- A data byte captured and taken by the consumer, the latch still asserted. -/
theorem obeys_taken (hidle : Idle s) (hc : s.rxCount.toNat < 192) (v : Byte) :
    ∃ t, Obeys .start s (planned .dataByte (byteHead v ++ [.cTest, .cAsm, .cInc, .cClr])) ⟨false, true, 0⟩ t ∧
      InFrame t := by
  have head := obeys_byteHead hidle v
  obtain ⟨hg, hi, he, -, -, -, -, -, hp, -⟩ := hidle
  have call := run_consumerCall (s := s.captured v) he hp rfl hc
  rw [planned_append]
  exact ⟨_, head.append (obeys_noStimulus .dataByte call (by simp)), hg, hi, rfl, rfl, rfl, rfl⟩

/-- A command and its service, as the first or the second one of a frame. -/
theorem obeys_servicedCommand {n : Nat} (hframe : InFrame s) (hn : n < 2) (x : Byte) :
    ∃ t, Obeys ⟨false, true, n⟩ s (planned .command [.serByte x, .svcSerial]) ⟨false, true, n + 1⟩ t ∧ InFrame t := by
  obtain ⟨hg, hi, hs, hl, hp, hf⟩ := hframe
  have sent := obeys_command (h := ⟨false, true, n⟩) x rfl hn hp hf
  cases hc : s.cmdState with
  | awaitFirst =>
    have served := obeys_step (h := ⟨false, true, n + 1⟩) (s := { s with serData := x, serFlag := true }) .command
      (.firstCommand hg hs rfl hc) (by simp)
    exact ⟨_, sent.append served, hg, hi, hs, hl, hp, rfl⟩
  | awaitSecond =>
    have served := obeys_step (h := ⟨false, true, n + 1⟩) (s := { s with serData := x, serFlag := true }) .command
      (.laterCommand hg hs rfl hc) (by simp)
    exact ⟨_, sent.append served, hg, hi, hs, hl, hp, rfl⟩

/-! ## Checks of a run of boot calls -/

variable {chk : Instr → State → Bool}

theorem runAll_cons (e : StepEffect s i u) (hok : chk i s = true) (hrest : runAll chk is u = true) :
    runAll chk (i :: is) s = true := by
  rw [runAll_next e.exec, hok, hrest, Bool.and_self]

theorem runAll_cons_false (e : StepEffect s i u) (hrest : runAll chk is u = false) : runAll chk (i :: is) s = false := by
  rw [runAll_next e.exec, hrest, Bool.and_false]

end Sys2Proof.Machine

open Sys2Proof Sys2Proof.Machine

/-- Settles O59: the accepted plans obey step by step; each broken duty is broken at the last step of its plan. -/
theorem upstreamDuties : Obligations.UpstreamDuties := by
  intro s v x y z hidle hc taken
  have head := obeys_byteHead hidle v
  obtain ⟨t, htaken, hframe⟩ := obeys_taken hidle hc v
  obtain ⟨t₁, first, hframe₁⟩ := obeys_servicedCommand hframe (n := 0) (by decide) x
  obtain ⟨t₂, second, hframe₂⟩ := obeys_servicedCommand hframe₁ (n := 1) (by decide) y
  obtain ⟨hgt, hit, -, hlt, hpt, hft⟩ := hframe
  obtain ⟨hg₁, hi₁, -, hl₁, -⟩ := hframe₁
  obtain ⟨hg₂, hi₂, -, hl₂, -⟩ := hframe₂
  have sent := obeys_command (h := ⟨false, true, 0⟩) x rfl (by decide) hpt hft
  obtain ⟨hg, hi, -, hl, -⟩ := hidle
  have hlate := (head.append (obeys_byteTail .dataByte hg hi rfl)).append (obeys_transfer x rfl)
  refine ⟨⟨?_, ?_, ?_⟩, fun m => ?_, fun m => ?_, ?_, ?_, ?_, ?_⟩
  · have plan : planned .dataByte (dataByteSteps v) = taken ++ planned .dataByte byteTail := planned_append ..
    rw [plan]
    exact (htaken.append (obeys_byteTail .dataByte hgt hit hlt)).keepsDuties hl
      (by simp [byteHead, byteTail, Instr.agent, Instr.mnemonic, Mnemonic.agent])
  · exact (htaken.append (first.append (obeys_byteTail .command hg₁ hi₁ hl₁))).keepsDuties hl
      (by simp [byteHead, byteTail, Instr.agent, Instr.mnemonic, Mnemonic.agent])
  · exact (htaken.append (first.append (second.append (obeys_byteTail .command hg₂ hi₂ hl₂)))).keepsDuties hl
      (by simp [byteHead, byteTail, Instr.agent, Instr.mnemonic, Mnemonic.agent])
  · exact (head.planAll_last (ok := byteOk) (fun _ _ _ h => h.byte) _).trans
      (by simp [byteOk, Planned.captures, isRise, isTransfer])
  · exact ((Obeys.nil .start s).planAll_last (ok := byteOk) (fun _ _ _ h => h.byte) _).trans
      (by simp [byteOk, Planned.captures, isRise, isTransfer, hl, Sender.start, bne])
  · have plan : planned .dataByte (byteHead v ++ byteTail ++ [.serByte x, .latchSet true]) =
        (planned .dataByte (byteHead v) ++ planned .dataByte byteTail ++ planned .dataByte [.serByte x]) ++
          [⟨.latchSet true, .dataByte⟩] := by simp [planned]
    rw [plan]
    exact (hlate.planAll_last (ok := paceOk) (fun _ _ _ h => h.pace) _).trans
      (by simp [paceOk, Planned.captures, isRise, State.captured])
  · exact ((Obeys.nil .start s).planAll_last (ok := shapeOk) (fun _ _ _ h => h.shape) _).trans
      (by simp [shapeOk, isTransfer, Sender.start])
  · have plan : taken ++ planned .command [.serByte x, .serByte y] =
        (taken ++ planned .command [.serByte x]) ++ [⟨.serByte y, .command⟩] := by simp [planned]
    rw [plan]
    exact ((htaken.append sent).planAll_last (ok := shapeOk) (fun _ _ _ h => h.shape) _).trans
      (by simp [shapeOk, isTransfer])
  · have plan : taken ++ planned .command [.serByte x, .svcSerial, .serByte y, .svcSerial, .serByte z] =
        (taken ++ (planned .command [.serByte x, .svcSerial] ++ planned .command [.serByte y, .svcSerial])) ++
          [⟨.serByte z, .command⟩] := by simp [planned]
    rw [plan]
    exact ((htaken.append (first.append second)).planAll_last (ok := shapeOk) (fun _ _ _ h => h.shape) _).trans
      (by simp [shapeOk, isTransfer])

/-- Settles O60: the order by evaluation, the refusals along the effects of the calls. -/
theorem bootDuties : Obligations.BootDuties := by
  intro cfg script chips s
  have empty : Memory.wf [] := by decide
  have order : runAll (fun i s => (refusalReason i s).isNone) bootOrder s = true :=
    runAll_cons (.rxInit rfl) rfl <| runAll_cons (bamInit_effect rfl empty) rfl <| runAll_cons (.gieSet rfl rfl) rfl <|
      runAll_cons (.bamStart rfl) rfl <| runAll_cons (.loopStart rfl rfl) rfl rfl
  have longer : runAll (fun i s => (refusalReason i s).isNone)
      [.rxInit, .rxStart, .bamInit, .rxStart, .gieSet, .bamReset, .bamStart, .loopStart] s = true :=
    runAll_cons (.rxInit rfl) rfl <| runAll_cons (.rxStart rfl) rfl <| runAll_cons (bamInit_effect rfl empty) rfl <|
      runAll_cons (.rxStart rfl) rfl <| runAll_cons (.gieSet rfl rfl) rfl <| runAll_cons (.bamReset rfl) rfl <|
        runAll_cons (.bamStart rfl) rfl <| runAll_cons (.loopStart rfl rfl) rfl rfl
  have again : runAll (fun i s => (refusalReason i s).isNone) [.rxInit, .bamInit, .gieSet, .rxInit] s = false :=
    runAll_cons_false (.rxInit rfl) <| runAll_cons_false (bamInit_effect rfl empty) <|
      runAll_cons_false (.gieSet rfl rfl) rfl
  refine ⟨rfl, ?_, ?_, rfl, rfl, fun i hi => ?_, ?_⟩
  · rw [dutyBoot, order]; rfl
  · rw [dutyBoot, longer]; rfl
  · simp only [bootOrder, List.tail_cons, List.mem_cons, List.not_mem_nil, or_false] at hi
    obtain rfl | rfl | rfl | rfl := hi <;> rfl
  · rw [dutyBoot, again, Bool.and_false]

end
